-- ==== Sys2Proof/Word.lean ====
section
/-! DEFINITION. The word types of the core and the names its operand tables use (00_scope.md R5, R9; 30_encoding.md R83 to R87). -/

namespace Sys2Proof

/-- `u8` (00_scope.md R5): registers, memory cells, immediates `n` and `e`. -/
abbrev Byte := BitVec 8

/-- `u16` (00_scope.md R5): `pc`, `SP`, pair values, addresses, immediates `nn`. -/
abbrev Addr := BitVec 16

/-- The seven 8-bit registers the 3-bit operand field can select (30_encoding.md R83): F is not among them. -/
inductive Reg8 where
  | a | b | c | d | e | h | l
  deriving DecidableEq, Repr

/-- The 16-bit operand table `rp` (30_encoding.md R84). -/
inductive Reg16 where
  | bc | de | hl | sp
  deriving DecidableEq, Repr

/-- The four register pairs (10_state.md R22), which are also the table `rp2` (30_encoding.md R84). -/
inductive Pair where
  | af | bc | de | hl
  deriving DecidableEq, Repr

/-- The condition table `cc` (30_encoding.md R85). -/
inductive Cond where
  | nz | z | nc | c
  deriving DecidableEq, Repr

/-- The ALU operation table `alu` (30_encoding.md R86). -/
inductive AluOp where
  | add | adc | sub | sbc | and | xor | or | cp
  deriving DecidableEq, Repr

/-- The rotate and shift table `rot` (30_encoding.md R87). -/
inductive RotOp where
  | rlc | rrc | rl | rr | sla | sra | swap | srl
  deriving DecidableEq, Repr

end Sys2Proof
end

