-- ==== Sys2Proof/Config.lean ====
section
/-! DEFINITION. The parameters the model takes as arguments (00_scope.md R4) and the free values of the memory
collaborator (20_memory.md R52, R53). -/

namespace Sys2Proof

/-- The parameters of `DI`, `EI`, `RETI` and the high page (00_scope.md R4, 20_memory.md R62, R63). The spec
leaves the first three OPEN (92_eei_decisions.md D7): no statement of this model assumes a value of them. -/
structure Params where
  ieAddr       : Addr
  diSentinel   : Byte
  eiSentinel   : Byte
  ldhAllowFFFF : Bool
  deriving DecidableEq, Repr

/-- R4: the suggested `IE_ADDR`, `DI_SENTINEL`, `EI_SENTINEL`, and the normative default of `LDH_ALLOW_FFFF`.
DESIGN CHOICE (log 5): the machine after reset holds the suggested values of the open parameters. Unsafe. -/
def Config.suggestedParams : Params where
  ieAddr := 0xFFFF
  diSentinel := 0x00
  eiSentinel := 0x01
  ldhAllowFFFF := false

/-- The memory collaborator `Mem` (20_memory.md R53) as plain data: which accesses fail. It is a store in every
case: a read that succeeds answers the cell. -/
inductive Collaborator where
  /-- `Mem.permissive`: no access fails. -/
  | permissive
  /-- `Mem.restricted`: exactly the writes below 0x8000 fail. -/
  | restricted
  /-- The general case with fixed sets of failing read and failing write addresses. -/
  | fixed (failingReads failingWrites : List Addr)
  /-- The general case with state-dependent sets: collaborator `tag` decides from its own state, the contents of memory and
  the access, and moves its own state with every access (log 3). -/
  | stateDependent (tag : Nat)
  deriving DecidableEq, Repr

/-! The free values. `state` is "whatever the collaborator needs to decide failures" (10_state.md R30), coded as a number. -/

/-- FREE (log 3): whether collaborator `tag` refuses a read of `addr` in its state `state` while memory holds `mem`. -/
opaque Config.readRefused (tag state : Nat) (mem : List (Nat × Byte)) (addr : Nat) : Bool

/-- FREE (log 3): whether collaborator `tag` refuses a write of `v` at `addr`. -/
opaque Config.writeRefused (tag state : Nat) (mem : List (Nat × Byte)) (addr : Nat) (v : Byte) : Bool

/-- FREE (log 3): the collaborator's own state after it was asked to read `addr`. -/
opaque Config.stateAfterRead (tag state : Nat) (mem : List (Nat × Byte)) (addr : Nat) : Nat

/-- FREE (log 3): the collaborator's own state after it was asked to write `v` at `addr`. -/
opaque Config.stateAfterWrite (tag state : Nat) (mem : List (Nat × Byte)) (addr : Nat) (v : Byte) : Nat

/-- FREE (log 4): what the cell at `addr` holds after a write of `v` that failed. "Whether the cell was changed by a
failed write is the collaborator's business and unspecified" (20_memory.md R52). -/
opaque Config.cellAfterFailedWrite (collab : Collaborator) (state : Nat) (mem : List (Nat × Byte)) (addr : Nat)
    (v : Byte) : Byte

end Sys2Proof
end

