-- ==== Sys2Proof/Machine/State.lean ====
section
/-! DEFINITION. The machine's state (10_state.md), the fatal conditions (60_exceptions.md R300), the reasons a step
answers no next state, and the state after reset (10_state.md R33, R34). -/

namespace Sys2Proof.Machine

/-- Memory: the collaborator's 65536 cells (10_state.md R30, 20_memory.md R50) as (address, byte) pairs, addresses
strictly rising, no pair holding 0x00, which is what an unlisted address reads as (20_memory.md R54). -/
abbrev Memory := List Host.Cell

/-- A fatal-condition record (60_exceptions.md R300). -/
inductive Fatal where
  /-- R301: the byte at `pc` has no instruction, or is `HALT` or `STOP`. -/
  | unimplementedOpcode (opcode : Byte) (pc : Addr)
  /-- R302: the collaborator answered a read of `addr` with an error. -/
  | memoryReadError (addr : Addr)
  /-- R303: the collaborator answered a write of `value` at `addr` with an error. -/
  | memoryWriteError (addr : Addr) (value : Byte)
  /-- R304: a high-page form addressed 0xFFFF while `LDH_ALLOW_FFFF` is false. -/
  | highPageRange (addr : Addr)
  deriving DecidableEq, Repr

/-- The pair (core state, collaborator state) of 10_state.md R30, with the model's arguments: `collab` and `params`
(00_scope.md R4) are not core state, and no step changes them. -/
structure State where
  /-- The eight registers (R20), named as the spec names them. -/
  a : Byte
  f : Byte
  b : Byte
  c : Byte
  d : Byte
  e : Byte
  h : Byte
  l : Byte
  /-- `SP` (R26). -/
  sp : Addr
  /-- `pc` (R25). -/
  pc : Addr
  /-- The fault latch (R29). -/
  fault : Option Fatal
  /-- The collaborator's store (R30). -/
  mem : Memory
  /-- "Whatever the collaborator needs to decide failures" (R30), coded as a number (log 3). -/
  collabState : Nat
  /-- Which accesses the collaborator refuses (20_memory.md R53). -/
  collab : Collaborator
  /-- `IE_ADDR`, the sentinels, `LDH_ALLOW_FFFF` (R4). -/
  params : Params
  deriving DecidableEq, Repr

/-- Why the machine stops. -/
inductive Fault where
  /-- Raised by `step` alone, when the latch already holds a record: "While `fault != None` the core has no step"
  (10_state.md R29). Safe: the hardware makes no step either. -/
  | latched (r : Fatal)
  deriving DecidableEq, Repr

/-- Why an instruction has no meaning in the model. -/
inductive Refusal where
  /-- Raised by `exec` alone, for a row of the opcode table without a meaning. Safe. No arm raises it. -/
  | notModelled (mnemonic : String)
  deriving DecidableEq, Repr

/-- What a meaning answers. -/
abbrev Result := Host.Outcome State Fault Refusal

/-- The state after reset (70_reset_and_hazards.md R341), with memory as at power-on with an empty cartridge
(20_memory.md R54). The collaborator is permissive, its own state 0 (DESIGN CHOICE, log 2), and the parameters
hold the suggested values (DESIGN CHOICE, log 5). -/
def State.reset : State where
  a := 0x01
  f := 0xB0
  b := 0x00
  c := 0x13
  d := 0x00
  e := 0xD8
  h := 0x01
  l := 0x4D
  sp := 0xFFFE
  pc := 0x0100
  fault := none
  mem := []
  collabState := 0
  collab := .permissive
  params := Config.suggestedParams

end Sys2Proof.Machine
end

