-- ==== Sys2Proof/Machine/Ops.lean ====
section
/-! DEFINITION. The named operations over memory, `pc`, the fault latch and the stack: the accesses of 20_memory.md
R51 to R59, `raise` of 60_exceptions.md R306 and the reset event beside it, `Push16` and `Pop16` of
40_primitives_dispatch.md R119 and R120, power-on of 20_memory.md R54. -/

namespace Sys2Proof.Machine

/-! ### The store -/

/-- What an unlisted address reads as: 0x00 (20_memory.md R54). -/
def unlistedByte : Byte := 0x00

/-- The byte at address `addr`. -/
def Memory.lookup : Memory → Nat → Byte
  | [], _ => unlistedByte
  | (k, w) :: m, addr => if k = addr then w else Memory.lookup m addr

/-- `m` without address `addr`. -/
def Memory.erase : Memory → Nat → Memory
  | [], _ => []
  | (k, w) :: m, addr => if k = addr then Memory.erase m addr else (k, w) :: Memory.erase m addr

/-- `m` with the pair `(addr, v)` put before the first larger address. -/
def Memory.insert : Memory → Nat → Byte → Memory
  | [], addr, v => [(addr, v)]
  | (k, w) :: m, addr, v =>
    if addr < k then (addr, v) :: (k, w) :: m else (k, w) :: Memory.insert m addr v

/-- `m` with `v` at `addr`, in the canonical form again. -/
def Memory.store (m : Memory) (addr : Nat) (v : Byte) : Memory :=
  if v = unlistedByte then m.erase addr else (m.erase addr).insert addr v

/-- Every address of `m` is at least `lo` and below 65536, the addresses rise strictly, and no byte is the one an
unlisted address reads as. -/
def Memory.wfFrom : Nat → Memory → Bool
  | _, [] => true
  | lo, (k, w) :: m => decide (lo ≤ k) && decide (k < 65536) && decide (w ≠ unlistedByte) && Memory.wfFrom (k + 1) m

/-- The canonical form of memory. -/
def Memory.wf (m : Memory) : Bool := Memory.wfFrom 0 m

/-- `cart` placed at ascending addresses from `addr`. -/
def Memory.load (m : Memory) (addr : Nat) : List Byte → Memory
  | [] => m
  | v :: vs => Memory.load (m.store addr v) (addr + 1) vs

/-- The cell at `addr`: what a read that succeeds answers. -/
def State.byteAt (s : State) (addr : Addr) : Byte := s.mem.lookup addr.toNat

/-! ### pc -/

/-- `pc` past `n` more bytes, modulo 0x10000 (10_state.md R25, R27). -/
def State.advance (s : State) (n : Addr) : State := { s with pc := s.pc + n }

/-- `pc <- v`. -/
def State.setPc (s : State) (v : Addr) : State := { s with pc := v }

/-- `SP <- v`. -/
def State.setSp (s : State) (v : Addr) : State := { s with sp := v }

/-! ### The fatal conditions and the reset event -/

/-- `raise r` (60_exceptions.md R306): the latch takes the record; nothing is pushed, saved or redirected. -/
def raise (r : Fatal) (s : State) : Result := .next { s with fault := some r }

/-- The core's part of the reset event (70_reset_and_hazards.md R340, R341), the only way out of a fatal condition.
The core touches neither memory nor the collaborator; whether the collaborator re-primes memory is unspecified, so what
memory and the collaborator's own state are afterwards are arguments (log 11). -/
def State.resetEvent (s : State) (memAfter : Memory) (stateAfter : Nat) : State :=
  { State.reset with mem := memAfter, collab := s.collab, collabState := stateAfter, params := s.params }

/-- Power-on (20_memory.md R54, R341): the cartridge image at 0.., 0x00 beyond, then reset. An image longer than 65536
bytes is refused (U11 of 93_implementation_defined.md, log 17). -/
def State.powerOn (cart : List Byte) (collab : Collaborator) (collabState : Nat) (params : Params) : Option State :=
  if cart.length ≤ 65536 then
    some { State.reset with mem := Memory.load [] 0 cart, collab := collab, collabState := collabState, params := params }
  else none

/-! ### The collaborator -/

/-- Whether the collaborator answers a read of `addr` with an error (20_memory.md R51, R53). -/
def State.readFails (s : State) (addr : Addr) : Bool :=
  match s.collab with
  | .permissive => false
  | .restricted => false
  | .fixed reads _ => reads.contains addr
  | .stateDependent tag => Config.readRefused tag s.collabState s.mem addr.toNat

/-- Whether the collaborator answers a write of `v` at `addr` with an error (20_memory.md R52, R53). -/
def State.writeFails (s : State) (addr : Addr) (v : Byte) : Bool :=
  match s.collab with
  | .permissive => false
  | .restricted => decide (addr.toNat < 0x8000)
  | .fixed _ writes => writes.contains addr
  | .stateDependent tag => Config.writeRefused tag s.collabState s.mem addr.toNat v

/-- The cell at `addr` becomes `v`. -/
def State.setByte (s : State) (addr : Addr) (v : Byte) : State := { s with mem := s.mem.store addr.toNat v }

/-- The collaborator was asked to read `addr`: only its own state may move (R30). -/
def State.afterRead (s : State) (addr : Addr) : State :=
  { s with collabState :=
      match s.collab with
      | .permissive => s.collabState
      | .restricted => s.collabState
      | .fixed _ _ => s.collabState
      | .stateDependent tag => Config.stateAfterRead tag s.collabState s.mem addr.toNat }

/-- The collaborator was asked to write `v` at `addr` and did: the cell holds `v` (R52), and its own state may move. -/
def State.afterWrite (s : State) (addr : Addr) (v : Byte) : State :=
  { s with
    mem := s.mem.store addr.toNat v
    collabState :=
      match s.collab with
      | .permissive => s.collabState
      | .restricted => s.collabState
      | .fixed _ _ => s.collabState
      | .stateDependent tag => Config.stateAfterWrite tag s.collabState s.mem addr.toNat v }

/-! ### Byte accesses -/

/-- `MemRead(addr, 1)` (20_memory.md R51), then `k` on the byte and the state after the read; on an error
`MemoryReadError(addr)` and nothing of `k`. -/
def readByte (addr : Addr) (s : State) (k : Byte → State → Result) : Result :=
  if s.readFails addr then raise (.memoryReadError addr) (s.afterRead addr) else k (s.byteAt addr) (s.afterRead addr)

/-- `MemWrite(addr, 1, v)` (20_memory.md R52), then `k` on the state after it; on an error `MemoryWriteError(addr, v)` and
nothing of `k`. The cell of a failed write is a free value (log 4). -/
def writeByte (addr : Addr) (v : Byte) (s : State) (k : State → Result) : Result :=
  if s.writeFails addr v then
    raise (.memoryWriteError addr v)
      ((s.afterWrite addr v).setByte addr (Config.cellAfterFailedWrite s.collab s.collabState s.mem addr.toNat v))
  else k (s.afterWrite addr v)

/-- The high byte `v[15:8]`. -/
def hiByte (v : Addr) : Byte := v.extractLsb' 8 8

/-- The low byte `v[7:0]`. -/
def loByte (v : Addr) : Byte := v.extractLsb' 0 8

/-- `hi ++ lo` (00_scope.md R5). -/
def joinBytes (hi lo : Byte) : Addr := hi ++ lo

/-- `MemRead(addr, 2)` (20_memory.md R57): low byte first. -/
def readWord (addr : Addr) (s : State) (k : Addr → State → Result) : Result :=
  readByte addr s fun lo s => readByte (addr + 1) s fun hi s => k (joinBytes hi lo) s

/-- `MemWrite(addr, 2, v)` (20_memory.md R57): low byte first. -/
def writeWord (addr v : Addr) (s : State) (k : State → Result) : Result :=
  writeByte addr (loByte v) s fun s => writeByte (addr + 1) (hiByte v) s k

/-! ### The stack -/

/-- `Push16(v)` (40_primitives_dispatch.md R119): SP steps down before each byte, high byte first. -/
def push16 (v : Addr) (s : State) (k : State → Result) : Result :=
  let s := s.setSp (s.sp - 1)
  writeByte s.sp (hiByte v) s fun s =>
    let s := s.setSp (s.sp - 1)
    writeByte s.sp (loByte v) s k

/-- `Pop16()` (40_primitives_dispatch.md R120): low byte first, SP steps up after each byte. -/
def pop16 (s : State) (k : Addr → State → Result) : Result :=
  readByte s.sp s fun lo s =>
    let s := s.setSp (s.sp + 1)
    readByte s.sp s fun hi s =>
      k (joinBytes hi lo) (s.setSp (s.sp + 1))

end Sys2Proof.Machine
end

