-- ==== Sys2Proof/Machine/Operands.lean ====
section
/-! DEFINITION. Registers, pairs and the operand forms: 10_state.md R20 to R23, 30_encoding.md R83, R84, R88,
40_primitives_dispatch.md R121, 41_load_8bit.md R149. -/

namespace Sys2Proof.Machine

/-- `x[r]`. -/
def State.reg (s : State) : Reg8 → Byte
  | .a => s.a
  | .b => s.b
  | .c => s.c
  | .d => s.d
  | .e => s.e
  | .h => s.h
  | .l => s.l

/-- `x[r] <- v`. -/
def State.setReg (s : State) (r : Reg8) (v : Byte) : State :=
  match r with
  | .a => { s with a := v }
  | .b => { s with b := v }
  | .c => { s with c := v }
  | .d => { s with d := v }
  | .e => { s with e := v }
  | .h => { s with h := v }
  | .l => { s with l := v }

/-- `x[F] <- v` for an arbitrary byte: the low nibble is discarded (10_state.md R21). -/
def State.setF (s : State) (v : Byte) : State := { s with f := v &&& 0xF0 }

/-- `xx[p]` (10_state.md R22). -/
def State.pair (s : State) : Pair → Addr
  | .af => joinBytes s.a s.f
  | .bc => joinBytes s.b s.c
  | .de => joinBytes s.d s.e
  | .hl => joinBytes s.h s.l

/-- `xx[p] <- v` (10_state.md R23). -/
def State.setPair (s : State) (p : Pair) (v : Addr) : State :=
  match p with
  | .af => { s.setF (loByte v) with a := hiByte v }
  | .bc => { s with b := hiByte v, c := loByte v }
  | .de => { s with d := hiByte v, e := loByte v }
  | .hl => { s with h := hiByte v, l := loByte v }

/-- `xx[HL]`, the address of the operand `(HL)`. -/
def State.hl (s : State) : Addr := s.pair .hl

/-- The value of a 16-bit operand of the table `rp` (30_encoding.md R84). -/
def State.reg16 (s : State) : Reg16 → Addr
  | .bc => s.pair .bc
  | .de => s.pair .de
  | .hl => s.pair .hl
  | .sp => s.sp

/-- Writing a 16-bit operand of the table `rp`. -/
def State.setReg16 (s : State) (rr : Reg16) (v : Addr) : State :=
  match rr with
  | .bc => s.setPair .bc v
  | .de => s.setPair .de v
  | .hl => s.setPair .hl v
  | .sp => s.setSp v

/-- `sext_16(e)` (00_scope.md R6): the displacement of 30_encoding.md R88. -/
def sext16 (e : Byte) : Addr := e.signExtend 16

/-- `0xFF00 + zext_16(off)` (20_memory.md R62). -/
def highPage (off : Byte) : Addr := 0xFF00 + off.zeroExtend 16

/-- Whether a high-page form may address offset `off` (20_memory.md R62, 41_load_8bit.md R149). -/
def State.highPageAllowed (s : State) (off : Byte) : Bool :=
  s.params.ldhAllowFFFF || decide (highPage off ≠ 0xFFFF)

/-- `HighAddr(off)` (41_load_8bit.md R149), then `k` on the address. -/
def highAddr (off : Byte) (s : State) (k : Addr → Result) : Result :=
  if s.highPageAllowed off then k (highPage off) else raise (.highPageRange 0xFFFF) s

/-- `Get8` (40_primitives_dispatch.md R121): a register, or for `none` (index 6) the byte at `xx[HL]`. -/
def get8 (operand : Option Reg8) (s : State) (k : Byte → State → Result) : Result :=
  match operand with
  | some r => k (s.reg r) s
  | none => readByte s.hl s k

/-- `Set8` (40_primitives_dispatch.md R121). -/
def set8 (operand : Option Reg8) (v : Byte) (s : State) (k : State → Result) : Result :=
  match operand with
  | some r => k (s.setReg r v)
  | none => writeByte s.hl v s k

end Sys2Proof.Machine
end

