-- ==== Sys2Proof/Machine/Flags.lean ====
section
/-! DEFINITION. The flag register (10_state.md R21, R24), the flag and arithmetic primitives
(40_primitives_dispatch.md R100 to R108), the condition evaluator (R109), the ALU functions (43_alu_8bit.md R170 to
R177, R208) and the rotate functions (45_rotate_shift_bit.md R234). -/

namespace Sys2Proof.Machine

/-! ### The flag register -/

/-- `F.Z`. -/
def State.flagZ (s : State) : Bool := s.f.getLsbD 7
/-- `F.N`. -/
def State.flagN (s : State) : Bool := s.f.getLsbD 6
/-- `F.H`. -/
def State.flagH (s : State) : Bool := s.f.getLsbD 5
/-- `F.C`. -/
def State.flagC (s : State) : Bool := s.f.getLsbD 4

/-- `z*0x80 + n*0x40 + h*0x20 + c*0x10` (00_scope.md R7). -/
def packFlags (z n h c : Bool) : Byte :=
  BitVec.ofNat 8 (z.toNat * 0x80 + n.toNat * 0x40 + h.toNat * 0x20 + c.toNat * 0x10)

/-- `flags <- (z, n, h, c)` (00_scope.md R7); a dash is written as the flag's present value. -/
def State.setFlags (s : State) (z n h c : Bool) : State := { s with f := packFlags z n h c }

/-- The four flags of an arithmetic result. -/
structure Flags where
  z : Bool
  n : Bool
  h : Bool
  c : Bool
  deriving DecidableEq, Repr

/-- `flags <- f`. -/
def State.putFlags (s : State) (f : Flags) : State := s.setFlags f.z f.n f.h f.c

/-- `F.Z <- b` (10_state.md R24): the other bits stay. -/
def State.setFlagZ (s : State) (b : Bool) : State := { s with f := s.f &&& 0x7F ||| packFlags b false false false }
/-- `F.N <- b`. -/
def State.setFlagN (s : State) (b : Bool) : State := { s with f := s.f &&& 0xBF ||| packFlags false b false false }
/-- `F.H <- b`. -/
def State.setFlagH (s : State) (b : Bool) : State := { s with f := s.f &&& 0xDF ||| packFlags false false b false }
/-- `F.C <- b`. -/
def State.setFlagC (s : State) (b : Bool) : State := { s with f := s.f &&& 0xEF ||| packFlags false false false b }

/-! ### Primitives -/

/-- R100. -/
def willHalfCarry (a b : Byte) : Bool := decide ((a &&& 0xF).toNat + (b &&& 0xF).toNat > 0xF)

/-- R101. -/
def willHalfBorrow (a b : Byte) : Bool := decide ((a &&& 0xF).toNat < (b &&& 0xF).toNat)

/-- R102. -/
def willCarry (a b : Byte) : Bool := decide (a.toNat + b.toNat > 0xFF)

/-- R103. -/
def increment (v : Byte) : Byte × Bool := (v + 1, willHalfCarry v 1)

/-- R104. -/
def decrement (v : Byte) : Byte × Bool := (v - 1, willHalfBorrow v 1)

/-- R106. -/
def halfCarry3 (a b : Byte) (cin : Bool) : Bool :=
  decide ((a &&& 0xF).toNat + (b &&& 0xF).toNat + cin.toNat > 0xF)

/-- R106. -/
def carry3 (a b : Byte) (cin : Bool) : Bool := decide (a.toNat + b.toNat + cin.toNat > 0xFF)

/-- R107. -/
def willBorrow (a b : Byte) : Bool := decide (a.toNat < b.toNat)

/-- R107. -/
def halfBorrow3 (a b : Byte) (cin : Bool) : Bool :=
  decide ((a &&& 0xF).toNat < (b &&& 0xF).toNat + cin.toNat)

/-- R107. -/
def borrow3 (a b : Byte) (cin : Bool) : Bool := decide (a.toNat < b.toNat + cin.toNat)

/-- R108: carry out of bit 11. -/
def halfCarry16 (a b : Addr) : Bool := decide ((a &&& 0x0FFF).toNat + (b &&& 0x0FFF).toNat > 0x0FFF)

/-- R108: carry out of bit 15. -/
def carry16 (a b : Addr) : Bool := decide (a.toNat + b.toNat > 0xFFFF)

/-- The carry out of bit 3 of `SP[7:0]` plus the raw byte `e` (42_load_16bit_stack.md R163). -/
def spHalfCarry (sp : Addr) (e : Byte) : Bool := decide ((sp &&& 0x000F).toNat + (e &&& 0x0F).toNat > 0x0F)

/-- The carry out of bit 7 of `SP[7:0]` plus the raw byte `e` (42_load_16bit_stack.md R163). -/
def spCarry (sp : Addr) (e : Byte) : Bool := decide ((sp &&& 0x00FF).toNat + e.toNat > 0xFF)

/-- R109: `evaluate(condition, flags)`. -/
def evaluate (cc : Cond) (flags : Byte) : Bool :=
  match cc with
  | .nz => !flags.getLsbD 7
  | .z => flags.getLsbD 7
  | .nc => !flags.getLsbD 4
  | .c => flags.getLsbD 4

/-- `cond(cc)`: the condition on the flags as they stand. -/
def State.cond (s : State) (cc : Cond) : Bool := evaluate cc s.f

/-! ### The ALU functions -/

/-- The carry-in as a byte. -/
def carryByte (cin : Bool) : Byte := BitVec.ofNat 8 cin.toNat

/-- R170. -/
def aluAdd (a v : Byte) : Byte × Flags :=
  let r := a + v
  (r, ⟨decide (r = 0), false, willHalfCarry a v, willCarry a v⟩)

/-- R171. -/
def aluAdc (a v : Byte) (cin : Bool) : Byte × Flags :=
  let r := a + v + carryByte cin
  (r, ⟨decide (r = 0), false, halfCarry3 a v cin, carry3 a v cin⟩)

/-- R172. -/
def aluSub (a v : Byte) : Byte × Flags :=
  let r := a - v
  (r, ⟨decide (r = 0), true, willHalfBorrow a v, willBorrow a v⟩)

/-- R173. -/
def aluSbc (a v : Byte) (cin : Bool) : Byte × Flags :=
  let r := a - v - carryByte cin
  (r, ⟨decide (r = 0), true, halfBorrow3 a v cin, borrow3 a v cin⟩)

/-- R174. -/
def aluAnd (a v : Byte) : Byte × Flags :=
  let r := a &&& v
  (r, ⟨decide (r = 0), false, true, false⟩)

/-- R175. -/
def aluXor (a v : Byte) : Byte × Flags :=
  let r := a ^^^ v
  (r, ⟨decide (r = 0), false, false, false⟩)

/-- R176. -/
def aluOr (a v : Byte) : Byte × Flags :=
  let r := a ||| v
  (r, ⟨decide (r = 0), false, false, false⟩)

/-- R177: the flags of `aluSub` and no result. -/
def aluCp (a v : Byte) : Flags := (aluSub a v).2

/-- The operation of the table `alu` (30_encoding.md R86): what A holds afterwards, and the flags. `CP` keeps A. -/
def alu (op : AluOp) (a v : Byte) (cin : Bool) : Byte × Flags :=
  match op with
  | .add => aluAdd a v
  | .adc => aluAdc a v cin
  | .sub => aluSub a v
  | .sbc => aluSbc a v cin
  | .and => aluAnd a v
  | .xor => aluXor a v
  | .or => aluOr a v
  | .cp => (a, aluCp a v)

/-- R208: the result and the carry of `DAA`. Both tests look at `a` before any adjustment. -/
def daaAdjust (a : Byte) (n h c : Bool) : Byte × Bool :=
  if n then
    (a - ((if h then 0x06 else 0) + (if c then 0x60 else 0)), c)
  else
    let low := h || decide ((a &&& 0x0F).toNat > 0x09)
    let high := c || decide (a.toNat > 0x99)
    (a + ((if low then 0x06 else 0) + (if high then 0x60 else 0)), high)

/-! ### The rotate functions -/

/-- R234: the result and the carry out of an operation of the table `rot` (30_encoding.md R87). -/
def rotate (op : RotOp) (v : Byte) (cin : Bool) : Byte × Bool :=
  match op with
  | .rlc => ((v <<< 1) ||| carryByte (v.getLsbD 7), v.getLsbD 7)
  | .rrc => ((v >>> 1) ||| (carryByte (v.getLsbD 0) <<< 7), v.getLsbD 0)
  | .rl => ((v <<< 1) ||| carryByte cin, v.getLsbD 7)
  | .rr => ((v >>> 1) ||| (carryByte cin <<< 7), v.getLsbD 0)
  | .sla => (v <<< 1, v.getLsbD 7)
  | .sra => ((v >>> 1) ||| (v &&& 0x80), v.getLsbD 0)
  | .swap => ((v <<< 4) ||| (v >>> 4), false)
  | .srl => (v >>> 1, v.getLsbD 0)

/-- `1 << b` at 8 bits (45_rotate_shift_bit.md R253). -/
def bitMask (b : Fin 8) : Byte := 1 <<< b.val

end Sys2Proof.Machine
end

