-- ==== Sys2Proof/Machine/Load16.lean ====
section
/-! DEFINITION. 16-bit loads and the stack (42_load_16bit_stack.md).
A meaning takes the state with `pc` at the instruction's first byte and its immediate already fetched; it moves `pc`
past the instruction itself (40_primitives_dispatch.md R111, R113). -/

namespace Sys2Proof.Machine

/-- R160: `rr <- nn`. -/
def loadReg16Imm (rr : Reg16) (nn : Addr) (s : State) : Result :=
  .next ((s.advance 3).setReg16 rr nn)

/-- R164: `Push16(xx[qq])`. -/
def pushPair (qq : Pair) (s : State) : Result :=
  push16 (s.pair qq) (s.advance 1) .next

/-- R165, R166: `xx[qq] <- Pop16()`. -/
def popPair (qq : Pair) (s : State) : Result :=
  pop16 (s.advance 1) fun v s => .next (s.setPair qq v)

/-- The flags of `LD HL,SP+e` and `ADD SP,e` (R163, R223): carries of the unsigned addition of `SP[7:0]` and the raw byte. -/
def addSpFlags (e : Byte) (s : State) : State :=
  s.setFlags false false (spHalfCarry s.sp e) (spCarry s.sp e)

/-- R160: `LD BC,nn`, 0x01. -/
def execLdBcNn (nn : Addr) (s : State) : Result := loadReg16Imm .bc nn s

/-- R161: `LD (nn),SP`, 0x08. -/
def execLdAtNnSp (nn : Addr) (s : State) : Result := writeWord nn s.sp (s.advance 3) .next

/-- R160: `LD DE,nn`, 0x11. -/
def execLdDeNn (nn : Addr) (s : State) : Result := loadReg16Imm .de nn s

/-- R160: `LD HL,nn`, 0x21. -/
def execLdHlNn (nn : Addr) (s : State) : Result := loadReg16Imm .hl nn s

/-- R160: `LD SP,nn`, 0x31. -/
def execLdSpNn (nn : Addr) (s : State) : Result := loadReg16Imm .sp nn s

/-- R165: `POP BC`, 0xC1. -/
def execPopBc (s : State) : Result := popPair .bc s

/-- R164: `PUSH BC`, 0xC5. -/
def execPushBc (s : State) : Result := pushPair .bc s

/-- R165: `POP DE`, 0xD1. -/
def execPopDe (s : State) : Result := popPair .de s

/-- R164: `PUSH DE`, 0xD5. -/
def execPushDe (s : State) : Result := pushPair .de s

/-- R165: `POP HL`, 0xE1. -/
def execPopHl (s : State) : Result := popPair .hl s

/-- R164: `PUSH HL`, 0xE5. -/
def execPushHl (s : State) : Result := pushPair .hl s

/-- R166: `POP AF`, 0xF1. -/
def execPopAf (s : State) : Result := popPair .af s

/-- R164: `PUSH AF`, 0xF5. -/
def execPushAf (s : State) : Result := pushPair .af s

/-- R163: `LD HL,SP+e`, 0xF8. -/
def execLdHlSpE (e : Byte) (s : State) : Result := .next ((addSpFlags e (s.advance 2)).setPair .hl (s.sp + sext16 e))

/-- R162: `LD SP,HL`, 0xF9. -/
def execLdSpHl (s : State) : Result := .next ((s.advance 1).setSp s.hl)

end Sys2Proof.Machine
end

