-- ==== Sys2Proof/Machine/Alu16.lean ====
section
/-! DEFINITION. 16-bit arithmetic (44_alu_16bit.md).
A meaning takes the state with `pc` at the instruction's first byte and its immediate already fetched; it moves `pc`
past the instruction itself (40_primitives_dispatch.md R111, R113). -/

namespace Sys2Proof.Machine

/-- R220: `rr <- rr +16 1`; F is not written. -/
def incReg16 (rr : Reg16) (s : State) : Result :=
  .next ((s.advance 1).setReg16 rr (s.reg16 rr + 1))

/-- R221: `rr <- rr -16 1`; F is not written. -/
def decReg16 (rr : Reg16) (s : State) : Result :=
  .next ((s.advance 1).setReg16 rr (s.reg16 rr - 1))

/-- R222: `xx[HL] <- xx[HL] +16 rr`; Z is kept. -/
def addHlReg16 (rr : Reg16) (s : State) : Result :=
  let x := s.hl
  let y := s.reg16 rr
  .next (((s.advance 1).setPair .hl (x + y)).setFlags s.flagZ false (halfCarry16 x y) (carry16 x y))

/-- R220: `INC BC`, 0x03. -/
def execIncBc (s : State) : Result := incReg16 .bc s

/-- R222: `ADD HL,BC`, 0x09. -/
def execAddHlBc (s : State) : Result := addHlReg16 .bc s

/-- R221: `DEC BC`, 0x0B. -/
def execDecBc (s : State) : Result := decReg16 .bc s

/-- R220: `INC DE`, 0x13. -/
def execIncDe (s : State) : Result := incReg16 .de s

/-- R222: `ADD HL,DE`, 0x19. -/
def execAddHlDe (s : State) : Result := addHlReg16 .de s

/-- R221: `DEC DE`, 0x1B. -/
def execDecDe (s : State) : Result := decReg16 .de s

/-- R220: `INC HL`, 0x23. -/
def execIncHl (s : State) : Result := incReg16 .hl s

/-- R222: `ADD HL,HL`, 0x29. -/
def execAddHlHl (s : State) : Result := addHlReg16 .hl s

/-- R221: `DEC HL`, 0x2B. -/
def execDecHl (s : State) : Result := decReg16 .hl s

/-- R220: `INC SP`, 0x33. -/
def execIncSp (s : State) : Result := incReg16 .sp s

/-- R222: `ADD HL,SP`, 0x39. -/
def execAddHlSp (s : State) : Result := addHlReg16 .sp s

/-- R221: `DEC SP`, 0x3B. -/
def execDecSp (s : State) : Result := decReg16 .sp s

/-- R223: `ADD SP,e`, 0xE8. -/
def execAddSpE (e : Byte) (s : State) : Result := .next ((addSpFlags e (s.advance 2)).setSp (s.sp + sext16 e))

end Sys2Proof.Machine
end

