-- ==== Sys2Proof/Machine/Alu8.lean ====
section
/-! DEFINITION. 8-bit arithmetic and logic (43_alu_8bit.md R180 to R211).
A meaning takes the state with `pc` at the instruction's first byte and its immediate already fetched; it moves `pc`
past the instruction itself (40_primitives_dispatch.md R111, R113). -/

namespace Sys2Proof.Machine

/-- R180: `INC r`; C is kept. -/
def incReg (r : Reg8) (s : State) : Result :=
  let (v, h) := increment (s.reg r)
  .next (((s.advance 1).setReg r v).setFlags (decide (v = 0)) false h s.flagC)

/-- R182: `DEC r`; C is kept. -/
def decReg (r : Reg8) (s : State) : Result :=
  let (v, h) := decrement (s.reg r)
  .next (((s.advance 1).setReg r v).setFlags (decide (v = 0)) true h s.flagC)

/-- R181: `INC (HL)`; the flags follow the store. -/
def incAtHl (s : State) : Result :=
  let s := s.advance 1
  readByte s.hl s fun old s =>
    let (v, h) := increment old
    writeByte s.hl v s fun s => .next (s.setFlags (decide (v = 0)) false h s.flagC)

/-- R183: `DEC (HL)`; the flags follow the store. -/
def decAtHl (s : State) : Result :=
  let s := s.advance 1
  readByte s.hl s fun old s =>
    let (v, h) := decrement old
    writeByte s.hl v s fun s => .next (s.setFlags (decide (v = 0)) true h s.flagC)

/-- `(r, f) <- alu(x[A], v) ; x[A] <- r ; flags <- f`: the common tail of R184 to R207. -/
def accumulate (op : AluOp) (v : Byte) (s : State) : State :=
  let (r, f) := alu op s.a v s.flagC
  (s.setReg .a r).putFlags f

/-- The register forms of R184 to R205. -/
def aluOnReg (op : AluOp) (r : Reg8) (s : State) : Result :=
  .next (accumulate op (s.reg r) (s.advance 1))

/-- The `(HL)` forms of R185 to R206. -/
def aluOnAtHl (op : AluOp) (s : State) : Result :=
  let s := s.advance 1
  readByte s.hl s fun v s => .next (accumulate op v s)

/-- The immediate forms of R186 to R207. -/
def aluOnImm (op : AluOp) (n : Byte) (s : State) : Result :=
  .next (accumulate op n (s.advance 2))

/-- R208: `DAA`; N is kept. -/
def decimalAdjust (s : State) : Result :=
  let (v, c) := daaAdjust s.a s.flagN s.flagH s.flagC
  .next (((s.advance 1).setReg .a v).setFlags (decide (v = 0)) s.flagN false c)

/-- R180: `INC B`, 0x04. -/
def execIncB (s : State) : Result := incReg .b s

/-- R182: `DEC B`, 0x05. -/
def execDecB (s : State) : Result := decReg .b s

/-- R180: `INC C`, 0x0C. -/
def execIncC (s : State) : Result := incReg .c s

/-- R182: `DEC C`, 0x0D. -/
def execDecC (s : State) : Result := decReg .c s

/-- R180: `INC D`, 0x14. -/
def execIncD (s : State) : Result := incReg .d s

/-- R182: `DEC D`, 0x15. -/
def execDecD (s : State) : Result := decReg .d s

/-- R180: `INC E`, 0x1C. -/
def execIncE (s : State) : Result := incReg .e s

/-- R182: `DEC E`, 0x1D. -/
def execDecE (s : State) : Result := decReg .e s

/-- R180: `INC H`, 0x24. -/
def execIncH (s : State) : Result := incReg .h s

/-- R182: `DEC H`, 0x25. -/
def execDecH (s : State) : Result := decReg .h s

/-- R208: `DAA`, 0x27. -/
def execDaa (s : State) : Result := decimalAdjust s

/-- R180: `INC L`, 0x2C. -/
def execIncL (s : State) : Result := incReg .l s

/-- R182: `DEC L`, 0x2D. -/
def execDecL (s : State) : Result := decReg .l s

/-- R209: `CPL`, 0x2F. -/
def execCpl (s : State) : Result :=
  .next (((s.advance 1).setReg .a (s.a ^^^ 0xFF)).setFlags s.flagZ true true s.flagC)

/-- R181: `INC (HL)`, 0x34. -/
def execIncAtHl (s : State) : Result := incAtHl s

/-- R183: `DEC (HL)`, 0x35. -/
def execDecAtHl (s : State) : Result := decAtHl s

/-- R210: `SCF`, 0x37. -/
def execScf (s : State) : Result := .next ((s.advance 1).setFlags s.flagZ false false true)

/-- R180: `INC A`, 0x3C. -/
def execIncA (s : State) : Result := incReg .a s

/-- R182: `DEC A`, 0x3D. -/
def execDecA (s : State) : Result := decReg .a s

/-- R211: `CCF`, 0x3F. -/
def execCcf (s : State) : Result := .next ((s.advance 1).setFlags s.flagZ false false (!s.flagC))

/-- R184: `ADD A,B`, 0x80. -/
def execAddAB (s : State) : Result := aluOnReg .add .b s

/-- R184: `ADD A,C`, 0x81. -/
def execAddAC (s : State) : Result := aluOnReg .add .c s

/-- R184: `ADD A,D`, 0x82. -/
def execAddAD (s : State) : Result := aluOnReg .add .d s

/-- R184: `ADD A,E`, 0x83. -/
def execAddAE (s : State) : Result := aluOnReg .add .e s

/-- R184: `ADD A,H`, 0x84. -/
def execAddAH (s : State) : Result := aluOnReg .add .h s

/-- R184: `ADD A,L`, 0x85. -/
def execAddAL (s : State) : Result := aluOnReg .add .l s

/-- R185: `ADD A,(HL)`, 0x86. -/
def execAddAAtHl (s : State) : Result := aluOnAtHl .add s

/-- R184: `ADD A,A`, 0x87. -/
def execAddAA (s : State) : Result := aluOnReg .add .a s

/-- R187: `ADC A,B`, 0x88. -/
def execAdcAB (s : State) : Result := aluOnReg .adc .b s

/-- R187: `ADC A,C`, 0x89. -/
def execAdcAC (s : State) : Result := aluOnReg .adc .c s

/-- R187: `ADC A,D`, 0x8A. -/
def execAdcAD (s : State) : Result := aluOnReg .adc .d s

/-- R187: `ADC A,E`, 0x8B. -/
def execAdcAE (s : State) : Result := aluOnReg .adc .e s

/-- R187: `ADC A,H`, 0x8C. -/
def execAdcAH (s : State) : Result := aluOnReg .adc .h s

/-- R187: `ADC A,L`, 0x8D. -/
def execAdcAL (s : State) : Result := aluOnReg .adc .l s

/-- R188: `ADC A,(HL)`, 0x8E. -/
def execAdcAAtHl (s : State) : Result := aluOnAtHl .adc s

/-- R187: `ADC A,A`, 0x8F. -/
def execAdcAA (s : State) : Result := aluOnReg .adc .a s

/-- R190: `SUB B`, 0x90. -/
def execSubB (s : State) : Result := aluOnReg .sub .b s

/-- R190: `SUB C`, 0x91. -/
def execSubC (s : State) : Result := aluOnReg .sub .c s

/-- R190: `SUB D`, 0x92. -/
def execSubD (s : State) : Result := aluOnReg .sub .d s

/-- R190: `SUB E`, 0x93. -/
def execSubE (s : State) : Result := aluOnReg .sub .e s

/-- R190: `SUB H`, 0x94. -/
def execSubH (s : State) : Result := aluOnReg .sub .h s

/-- R190: `SUB L`, 0x95. -/
def execSubL (s : State) : Result := aluOnReg .sub .l s

/-- R191: `SUB (HL)`, 0x96. -/
def execSubAtHl (s : State) : Result := aluOnAtHl .sub s

/-- R190: `SUB A`, 0x97. -/
def execSubA (s : State) : Result := aluOnReg .sub .a s

/-- R193: `SBC A,B`, 0x98. -/
def execSbcAB (s : State) : Result := aluOnReg .sbc .b s

/-- R193: `SBC A,C`, 0x99. -/
def execSbcAC (s : State) : Result := aluOnReg .sbc .c s

/-- R193: `SBC A,D`, 0x9A. -/
def execSbcAD (s : State) : Result := aluOnReg .sbc .d s

/-- R193: `SBC A,E`, 0x9B. -/
def execSbcAE (s : State) : Result := aluOnReg .sbc .e s

/-- R193: `SBC A,H`, 0x9C. -/
def execSbcAH (s : State) : Result := aluOnReg .sbc .h s

/-- R193: `SBC A,L`, 0x9D. -/
def execSbcAL (s : State) : Result := aluOnReg .sbc .l s

/-- R194: `SBC A,(HL)`, 0x9E. -/
def execSbcAAtHl (s : State) : Result := aluOnAtHl .sbc s

/-- R193: `SBC A,A`, 0x9F. -/
def execSbcAA (s : State) : Result := aluOnReg .sbc .a s

/-- R196: `AND B`, 0xA0. -/
def execAndB (s : State) : Result := aluOnReg .and .b s

/-- R196: `AND C`, 0xA1. -/
def execAndC (s : State) : Result := aluOnReg .and .c s

/-- R196: `AND D`, 0xA2. -/
def execAndD (s : State) : Result := aluOnReg .and .d s

/-- R196: `AND E`, 0xA3. -/
def execAndE (s : State) : Result := aluOnReg .and .e s

/-- R196: `AND H`, 0xA4. -/
def execAndH (s : State) : Result := aluOnReg .and .h s

/-- R196: `AND L`, 0xA5. -/
def execAndL (s : State) : Result := aluOnReg .and .l s

/-- R197: `AND (HL)`, 0xA6. -/
def execAndAtHl (s : State) : Result := aluOnAtHl .and s

/-- R196: `AND A`, 0xA7. -/
def execAndA (s : State) : Result := aluOnReg .and .a s

/-- R199: `XOR B`, 0xA8. -/
def execXorB (s : State) : Result := aluOnReg .xor .b s

/-- R199: `XOR C`, 0xA9. -/
def execXorC (s : State) : Result := aluOnReg .xor .c s

/-- R199: `XOR D`, 0xAA. -/
def execXorD (s : State) : Result := aluOnReg .xor .d s

/-- R199: `XOR E`, 0xAB. -/
def execXorE (s : State) : Result := aluOnReg .xor .e s

/-- R199: `XOR H`, 0xAC. -/
def execXorH (s : State) : Result := aluOnReg .xor .h s

/-- R199: `XOR L`, 0xAD. -/
def execXorL (s : State) : Result := aluOnReg .xor .l s

/-- R200: `XOR (HL)`, 0xAE. -/
def execXorAtHl (s : State) : Result := aluOnAtHl .xor s

/-- R199: `XOR A`, 0xAF. -/
def execXorA (s : State) : Result := aluOnReg .xor .a s

/-- R202: `OR B`, 0xB0. -/
def execOrB (s : State) : Result := aluOnReg .or .b s

/-- R202: `OR C`, 0xB1. -/
def execOrC (s : State) : Result := aluOnReg .or .c s

/-- R202: `OR D`, 0xB2. -/
def execOrD (s : State) : Result := aluOnReg .or .d s

/-- R202: `OR E`, 0xB3. -/
def execOrE (s : State) : Result := aluOnReg .or .e s

/-- R202: `OR H`, 0xB4. -/
def execOrH (s : State) : Result := aluOnReg .or .h s

/-- R202: `OR L`, 0xB5. -/
def execOrL (s : State) : Result := aluOnReg .or .l s

/-- R203: `OR (HL)`, 0xB6. -/
def execOrAtHl (s : State) : Result := aluOnAtHl .or s

/-- R202: `OR A`, 0xB7. -/
def execOrA (s : State) : Result := aluOnReg .or .a s

/-- R205: `CP B`, 0xB8. -/
def execCpB (s : State) : Result := aluOnReg .cp .b s

/-- R205: `CP C`, 0xB9. -/
def execCpC (s : State) : Result := aluOnReg .cp .c s

/-- R205: `CP D`, 0xBA. -/
def execCpD (s : State) : Result := aluOnReg .cp .d s

/-- R205: `CP E`, 0xBB. -/
def execCpE (s : State) : Result := aluOnReg .cp .e s

/-- R205: `CP H`, 0xBC. -/
def execCpH (s : State) : Result := aluOnReg .cp .h s

/-- R205: `CP L`, 0xBD. -/
def execCpL (s : State) : Result := aluOnReg .cp .l s

/-- R206: `CP (HL)`, 0xBE. -/
def execCpAtHl (s : State) : Result := aluOnAtHl .cp s

/-- R205: `CP A`, 0xBF. -/
def execCpA (s : State) : Result := aluOnReg .cp .a s

/-- R186: `ADD A,n`, 0xC6. -/
def execAddAN (n : Byte) (s : State) : Result := aluOnImm .add n s

/-- R189: `ADC A,n`, 0xCE. -/
def execAdcAN (n : Byte) (s : State) : Result := aluOnImm .adc n s

/-- R192: `SUB n`, 0xD6. -/
def execSubN (n : Byte) (s : State) : Result := aluOnImm .sub n s

/-- R195: `SBC A,n`, 0xDE. -/
def execSbcAN (n : Byte) (s : State) : Result := aluOnImm .sbc n s

/-- R198: `AND n`, 0xE6. -/
def execAndN (n : Byte) (s : State) : Result := aluOnImm .and n s

/-- R201: `XOR n`, 0xEE. -/
def execXorN (n : Byte) (s : State) : Result := aluOnImm .xor n s

/-- R204: `OR n`, 0xF6. -/
def execOrN (n : Byte) (s : State) : Result := aluOnImm .or n s

/-- R207: `CP n`, 0xFE. -/
def execCpN (n : Byte) (s : State) : Result := aluOnImm .cp n s

end Sys2Proof.Machine
end

