-- ==== Sys2Proof/Machine/BitOps.lean ====
section
/-! DEFINITION. Bit test, reset and set (45_rotate_shift_bit.md R251 to R256).
A meaning takes the state with `pc` at the instruction's first byte and its immediate already fetched; it moves `pc`
past the instruction itself (40_primitives_dispatch.md R111, R113). -/

namespace Sys2Proof.Machine

/-- The flags of `BIT` (R251): Z is the complement of the bit, C is kept. -/
def bitFlags (b : Fin 8) (v : Byte) (s : State) : State :=
  s.setFlags (!v.getLsbD b.val) false true s.flagC

/-- R251. -/
def testBitReg (b : Fin 8) (r : Reg8) (s : State) : Result :=
  .next (bitFlags b (s.reg r) (s.advance 2))

/-- R252: memory is not written. -/
def testBitAtHl (b : Fin 8) (s : State) : Result :=
  let s := s.advance 2
  readByte s.hl s fun v s => .next (bitFlags b v s)

/-- R253: `x[r] <- x[r] & ~(1 << b)`. -/
def clearBitReg (b : Fin 8) (r : Reg8) (s : State) : Result :=
  .next ((s.advance 2).setReg r (s.reg r &&& ~~~bitMask b))

/-- R254: the write is made even when the value does not change. -/
def clearBitAtHl (b : Fin 8) (s : State) : Result :=
  let s := s.advance 2
  readByte s.hl s fun old s => writeByte s.hl (old &&& ~~~bitMask b) s .next

/-- R255: `x[r] <- x[r] | (1 << b)`. -/
def setBitReg (b : Fin 8) (r : Reg8) (s : State) : Result :=
  .next ((s.advance 2).setReg r (s.reg r ||| bitMask b))

/-- R256. -/
def setBitAtHl (b : Fin 8) (s : State) : Result :=
  let s := s.advance 2
  readByte s.hl s fun old s => writeByte s.hl (old ||| bitMask b) s .next

/-- R251: `BIT 0,B`, 0xCB 0x40. -/
def execBit0B (s : State) : Result := testBitReg 0 .b s

/-- R251: `BIT 0,C`, 0xCB 0x41. -/
def execBit0C (s : State) : Result := testBitReg 0 .c s

/-- R251: `BIT 0,D`, 0xCB 0x42. -/
def execBit0D (s : State) : Result := testBitReg 0 .d s

/-- R251: `BIT 0,E`, 0xCB 0x43. -/
def execBit0E (s : State) : Result := testBitReg 0 .e s

/-- R251: `BIT 0,H`, 0xCB 0x44. -/
def execBit0H (s : State) : Result := testBitReg 0 .h s

/-- R251: `BIT 0,L`, 0xCB 0x45. -/
def execBit0L (s : State) : Result := testBitReg 0 .l s

/-- R252: `BIT 0,(HL)`, 0xCB 0x46. -/
def execBit0AtHl (s : State) : Result := testBitAtHl 0 s

/-- R251: `BIT 0,A`, 0xCB 0x47. -/
def execBit0A (s : State) : Result := testBitReg 0 .a s

/-- R251: `BIT 1,B`, 0xCB 0x48. -/
def execBit1B (s : State) : Result := testBitReg 1 .b s

/-- R251: `BIT 1,C`, 0xCB 0x49. -/
def execBit1C (s : State) : Result := testBitReg 1 .c s

/-- R251: `BIT 1,D`, 0xCB 0x4A. -/
def execBit1D (s : State) : Result := testBitReg 1 .d s

/-- R251: `BIT 1,E`, 0xCB 0x4B. -/
def execBit1E (s : State) : Result := testBitReg 1 .e s

/-- R251: `BIT 1,H`, 0xCB 0x4C. -/
def execBit1H (s : State) : Result := testBitReg 1 .h s

/-- R251: `BIT 1,L`, 0xCB 0x4D. -/
def execBit1L (s : State) : Result := testBitReg 1 .l s

/-- R252: `BIT 1,(HL)`, 0xCB 0x4E. -/
def execBit1AtHl (s : State) : Result := testBitAtHl 1 s

/-- R251: `BIT 1,A`, 0xCB 0x4F. -/
def execBit1A (s : State) : Result := testBitReg 1 .a s

/-- R251: `BIT 2,B`, 0xCB 0x50. -/
def execBit2B (s : State) : Result := testBitReg 2 .b s

/-- R251: `BIT 2,C`, 0xCB 0x51. -/
def execBit2C (s : State) : Result := testBitReg 2 .c s

/-- R251: `BIT 2,D`, 0xCB 0x52. -/
def execBit2D (s : State) : Result := testBitReg 2 .d s

/-- R251: `BIT 2,E`, 0xCB 0x53. -/
def execBit2E (s : State) : Result := testBitReg 2 .e s

/-- R251: `BIT 2,H`, 0xCB 0x54. -/
def execBit2H (s : State) : Result := testBitReg 2 .h s

/-- R251: `BIT 2,L`, 0xCB 0x55. -/
def execBit2L (s : State) : Result := testBitReg 2 .l s

/-- R252: `BIT 2,(HL)`, 0xCB 0x56. -/
def execBit2AtHl (s : State) : Result := testBitAtHl 2 s

/-- R251: `BIT 2,A`, 0xCB 0x57. -/
def execBit2A (s : State) : Result := testBitReg 2 .a s

/-- R251: `BIT 3,B`, 0xCB 0x58. -/
def execBit3B (s : State) : Result := testBitReg 3 .b s

/-- R251: `BIT 3,C`, 0xCB 0x59. -/
def execBit3C (s : State) : Result := testBitReg 3 .c s

/-- R251: `BIT 3,D`, 0xCB 0x5A. -/
def execBit3D (s : State) : Result := testBitReg 3 .d s

/-- R251: `BIT 3,E`, 0xCB 0x5B. -/
def execBit3E (s : State) : Result := testBitReg 3 .e s

/-- R251: `BIT 3,H`, 0xCB 0x5C. -/
def execBit3H (s : State) : Result := testBitReg 3 .h s

/-- R251: `BIT 3,L`, 0xCB 0x5D. -/
def execBit3L (s : State) : Result := testBitReg 3 .l s

/-- R252: `BIT 3,(HL)`, 0xCB 0x5E. -/
def execBit3AtHl (s : State) : Result := testBitAtHl 3 s

/-- R251: `BIT 3,A`, 0xCB 0x5F. -/
def execBit3A (s : State) : Result := testBitReg 3 .a s

/-- R251: `BIT 4,B`, 0xCB 0x60. -/
def execBit4B (s : State) : Result := testBitReg 4 .b s

/-- R251: `BIT 4,C`, 0xCB 0x61. -/
def execBit4C (s : State) : Result := testBitReg 4 .c s

/-- R251: `BIT 4,D`, 0xCB 0x62. -/
def execBit4D (s : State) : Result := testBitReg 4 .d s

/-- R251: `BIT 4,E`, 0xCB 0x63. -/
def execBit4E (s : State) : Result := testBitReg 4 .e s

/-- R251: `BIT 4,H`, 0xCB 0x64. -/
def execBit4H (s : State) : Result := testBitReg 4 .h s

/-- R251: `BIT 4,L`, 0xCB 0x65. -/
def execBit4L (s : State) : Result := testBitReg 4 .l s

/-- R252: `BIT 4,(HL)`, 0xCB 0x66. -/
def execBit4AtHl (s : State) : Result := testBitAtHl 4 s

/-- R251: `BIT 4,A`, 0xCB 0x67. -/
def execBit4A (s : State) : Result := testBitReg 4 .a s

/-- R251: `BIT 5,B`, 0xCB 0x68. -/
def execBit5B (s : State) : Result := testBitReg 5 .b s

/-- R251: `BIT 5,C`, 0xCB 0x69. -/
def execBit5C (s : State) : Result := testBitReg 5 .c s

/-- R251: `BIT 5,D`, 0xCB 0x6A. -/
def execBit5D (s : State) : Result := testBitReg 5 .d s

/-- R251: `BIT 5,E`, 0xCB 0x6B. -/
def execBit5E (s : State) : Result := testBitReg 5 .e s

/-- R251: `BIT 5,H`, 0xCB 0x6C. -/
def execBit5H (s : State) : Result := testBitReg 5 .h s

/-- R251: `BIT 5,L`, 0xCB 0x6D. -/
def execBit5L (s : State) : Result := testBitReg 5 .l s

/-- R252: `BIT 5,(HL)`, 0xCB 0x6E. -/
def execBit5AtHl (s : State) : Result := testBitAtHl 5 s

/-- R251: `BIT 5,A`, 0xCB 0x6F. -/
def execBit5A (s : State) : Result := testBitReg 5 .a s

/-- R251: `BIT 6,B`, 0xCB 0x70. -/
def execBit6B (s : State) : Result := testBitReg 6 .b s

/-- R251: `BIT 6,C`, 0xCB 0x71. -/
def execBit6C (s : State) : Result := testBitReg 6 .c s

/-- R251: `BIT 6,D`, 0xCB 0x72. -/
def execBit6D (s : State) : Result := testBitReg 6 .d s

/-- R251: `BIT 6,E`, 0xCB 0x73. -/
def execBit6E (s : State) : Result := testBitReg 6 .e s

/-- R251: `BIT 6,H`, 0xCB 0x74. -/
def execBit6H (s : State) : Result := testBitReg 6 .h s

/-- R251: `BIT 6,L`, 0xCB 0x75. -/
def execBit6L (s : State) : Result := testBitReg 6 .l s

/-- R252: `BIT 6,(HL)`, 0xCB 0x76. -/
def execBit6AtHl (s : State) : Result := testBitAtHl 6 s

/-- R251: `BIT 6,A`, 0xCB 0x77. -/
def execBit6A (s : State) : Result := testBitReg 6 .a s

/-- R251: `BIT 7,B`, 0xCB 0x78. -/
def execBit7B (s : State) : Result := testBitReg 7 .b s

/-- R251: `BIT 7,C`, 0xCB 0x79. -/
def execBit7C (s : State) : Result := testBitReg 7 .c s

/-- R251: `BIT 7,D`, 0xCB 0x7A. -/
def execBit7D (s : State) : Result := testBitReg 7 .d s

/-- R251: `BIT 7,E`, 0xCB 0x7B. -/
def execBit7E (s : State) : Result := testBitReg 7 .e s

/-- R251: `BIT 7,H`, 0xCB 0x7C. -/
def execBit7H (s : State) : Result := testBitReg 7 .h s

/-- R251: `BIT 7,L`, 0xCB 0x7D. -/
def execBit7L (s : State) : Result := testBitReg 7 .l s

/-- R252: `BIT 7,(HL)`, 0xCB 0x7E. -/
def execBit7AtHl (s : State) : Result := testBitAtHl 7 s

/-- R251: `BIT 7,A`, 0xCB 0x7F. -/
def execBit7A (s : State) : Result := testBitReg 7 .a s

/-- R253: `RES 0,B`, 0xCB 0x80. -/
def execRes0B (s : State) : Result := clearBitReg 0 .b s

/-- R253: `RES 0,C`, 0xCB 0x81. -/
def execRes0C (s : State) : Result := clearBitReg 0 .c s

/-- R253: `RES 0,D`, 0xCB 0x82. -/
def execRes0D (s : State) : Result := clearBitReg 0 .d s

/-- R253: `RES 0,E`, 0xCB 0x83. -/
def execRes0E (s : State) : Result := clearBitReg 0 .e s

/-- R253: `RES 0,H`, 0xCB 0x84. -/
def execRes0H (s : State) : Result := clearBitReg 0 .h s

/-- R253: `RES 0,L`, 0xCB 0x85. -/
def execRes0L (s : State) : Result := clearBitReg 0 .l s

/-- R254: `RES 0,(HL)`, 0xCB 0x86. -/
def execRes0AtHl (s : State) : Result := clearBitAtHl 0 s

/-- R253: `RES 0,A`, 0xCB 0x87. -/
def execRes0A (s : State) : Result := clearBitReg 0 .a s

/-- R253: `RES 1,B`, 0xCB 0x88. -/
def execRes1B (s : State) : Result := clearBitReg 1 .b s

/-- R253: `RES 1,C`, 0xCB 0x89. -/
def execRes1C (s : State) : Result := clearBitReg 1 .c s

/-- R253: `RES 1,D`, 0xCB 0x8A. -/
def execRes1D (s : State) : Result := clearBitReg 1 .d s

/-- R253: `RES 1,E`, 0xCB 0x8B. -/
def execRes1E (s : State) : Result := clearBitReg 1 .e s

/-- R253: `RES 1,H`, 0xCB 0x8C. -/
def execRes1H (s : State) : Result := clearBitReg 1 .h s

/-- R253: `RES 1,L`, 0xCB 0x8D. -/
def execRes1L (s : State) : Result := clearBitReg 1 .l s

/-- R254: `RES 1,(HL)`, 0xCB 0x8E. -/
def execRes1AtHl (s : State) : Result := clearBitAtHl 1 s

/-- R253: `RES 1,A`, 0xCB 0x8F. -/
def execRes1A (s : State) : Result := clearBitReg 1 .a s

/-- R253: `RES 2,B`, 0xCB 0x90. -/
def execRes2B (s : State) : Result := clearBitReg 2 .b s

/-- R253: `RES 2,C`, 0xCB 0x91. -/
def execRes2C (s : State) : Result := clearBitReg 2 .c s

/-- R253: `RES 2,D`, 0xCB 0x92. -/
def execRes2D (s : State) : Result := clearBitReg 2 .d s

/-- R253: `RES 2,E`, 0xCB 0x93. -/
def execRes2E (s : State) : Result := clearBitReg 2 .e s

/-- R253: `RES 2,H`, 0xCB 0x94. -/
def execRes2H (s : State) : Result := clearBitReg 2 .h s

/-- R253: `RES 2,L`, 0xCB 0x95. -/
def execRes2L (s : State) : Result := clearBitReg 2 .l s

/-- R254: `RES 2,(HL)`, 0xCB 0x96. -/
def execRes2AtHl (s : State) : Result := clearBitAtHl 2 s

/-- R253: `RES 2,A`, 0xCB 0x97. -/
def execRes2A (s : State) : Result := clearBitReg 2 .a s

/-- R253: `RES 3,B`, 0xCB 0x98. -/
def execRes3B (s : State) : Result := clearBitReg 3 .b s

/-- R253: `RES 3,C`, 0xCB 0x99. -/
def execRes3C (s : State) : Result := clearBitReg 3 .c s

/-- R253: `RES 3,D`, 0xCB 0x9A. -/
def execRes3D (s : State) : Result := clearBitReg 3 .d s

/-- R253: `RES 3,E`, 0xCB 0x9B. -/
def execRes3E (s : State) : Result := clearBitReg 3 .e s

/-- R253: `RES 3,H`, 0xCB 0x9C. -/
def execRes3H (s : State) : Result := clearBitReg 3 .h s

/-- R253: `RES 3,L`, 0xCB 0x9D. -/
def execRes3L (s : State) : Result := clearBitReg 3 .l s

/-- R254: `RES 3,(HL)`, 0xCB 0x9E. -/
def execRes3AtHl (s : State) : Result := clearBitAtHl 3 s

/-- R253: `RES 3,A`, 0xCB 0x9F. -/
def execRes3A (s : State) : Result := clearBitReg 3 .a s

/-- R253: `RES 4,B`, 0xCB 0xA0. -/
def execRes4B (s : State) : Result := clearBitReg 4 .b s

/-- R253: `RES 4,C`, 0xCB 0xA1. -/
def execRes4C (s : State) : Result := clearBitReg 4 .c s

/-- R253: `RES 4,D`, 0xCB 0xA2. -/
def execRes4D (s : State) : Result := clearBitReg 4 .d s

/-- R253: `RES 4,E`, 0xCB 0xA3. -/
def execRes4E (s : State) : Result := clearBitReg 4 .e s

/-- R253: `RES 4,H`, 0xCB 0xA4. -/
def execRes4H (s : State) : Result := clearBitReg 4 .h s

/-- R253: `RES 4,L`, 0xCB 0xA5. -/
def execRes4L (s : State) : Result := clearBitReg 4 .l s

/-- R254: `RES 4,(HL)`, 0xCB 0xA6. -/
def execRes4AtHl (s : State) : Result := clearBitAtHl 4 s

/-- R253: `RES 4,A`, 0xCB 0xA7. -/
def execRes4A (s : State) : Result := clearBitReg 4 .a s

/-- R253: `RES 5,B`, 0xCB 0xA8. -/
def execRes5B (s : State) : Result := clearBitReg 5 .b s

/-- R253: `RES 5,C`, 0xCB 0xA9. -/
def execRes5C (s : State) : Result := clearBitReg 5 .c s

/-- R253: `RES 5,D`, 0xCB 0xAA. -/
def execRes5D (s : State) : Result := clearBitReg 5 .d s

/-- R253: `RES 5,E`, 0xCB 0xAB. -/
def execRes5E (s : State) : Result := clearBitReg 5 .e s

/-- R253: `RES 5,H`, 0xCB 0xAC. -/
def execRes5H (s : State) : Result := clearBitReg 5 .h s

/-- R253: `RES 5,L`, 0xCB 0xAD. -/
def execRes5L (s : State) : Result := clearBitReg 5 .l s

/-- R254: `RES 5,(HL)`, 0xCB 0xAE. -/
def execRes5AtHl (s : State) : Result := clearBitAtHl 5 s

/-- R253: `RES 5,A`, 0xCB 0xAF. -/
def execRes5A (s : State) : Result := clearBitReg 5 .a s

/-- R253: `RES 6,B`, 0xCB 0xB0. -/
def execRes6B (s : State) : Result := clearBitReg 6 .b s

/-- R253: `RES 6,C`, 0xCB 0xB1. -/
def execRes6C (s : State) : Result := clearBitReg 6 .c s

/-- R253: `RES 6,D`, 0xCB 0xB2. -/
def execRes6D (s : State) : Result := clearBitReg 6 .d s

/-- R253: `RES 6,E`, 0xCB 0xB3. -/
def execRes6E (s : State) : Result := clearBitReg 6 .e s

/-- R253: `RES 6,H`, 0xCB 0xB4. -/
def execRes6H (s : State) : Result := clearBitReg 6 .h s

/-- R253: `RES 6,L`, 0xCB 0xB5. -/
def execRes6L (s : State) : Result := clearBitReg 6 .l s

/-- R254: `RES 6,(HL)`, 0xCB 0xB6. -/
def execRes6AtHl (s : State) : Result := clearBitAtHl 6 s

/-- R253: `RES 6,A`, 0xCB 0xB7. -/
def execRes6A (s : State) : Result := clearBitReg 6 .a s

/-- R253: `RES 7,B`, 0xCB 0xB8. -/
def execRes7B (s : State) : Result := clearBitReg 7 .b s

/-- R253: `RES 7,C`, 0xCB 0xB9. -/
def execRes7C (s : State) : Result := clearBitReg 7 .c s

/-- R253: `RES 7,D`, 0xCB 0xBA. -/
def execRes7D (s : State) : Result := clearBitReg 7 .d s

/-- R253: `RES 7,E`, 0xCB 0xBB. -/
def execRes7E (s : State) : Result := clearBitReg 7 .e s

/-- R253: `RES 7,H`, 0xCB 0xBC. -/
def execRes7H (s : State) : Result := clearBitReg 7 .h s

/-- R253: `RES 7,L`, 0xCB 0xBD. -/
def execRes7L (s : State) : Result := clearBitReg 7 .l s

/-- R254: `RES 7,(HL)`, 0xCB 0xBE. -/
def execRes7AtHl (s : State) : Result := clearBitAtHl 7 s

/-- R253: `RES 7,A`, 0xCB 0xBF. -/
def execRes7A (s : State) : Result := clearBitReg 7 .a s

/-- R255: `SET 0,B`, 0xCB 0xC0. -/
def execSet0B (s : State) : Result := setBitReg 0 .b s

/-- R255: `SET 0,C`, 0xCB 0xC1. -/
def execSet0C (s : State) : Result := setBitReg 0 .c s

/-- R255: `SET 0,D`, 0xCB 0xC2. -/
def execSet0D (s : State) : Result := setBitReg 0 .d s

/-- R255: `SET 0,E`, 0xCB 0xC3. -/
def execSet0E (s : State) : Result := setBitReg 0 .e s

/-- R255: `SET 0,H`, 0xCB 0xC4. -/
def execSet0H (s : State) : Result := setBitReg 0 .h s

/-- R255: `SET 0,L`, 0xCB 0xC5. -/
def execSet0L (s : State) : Result := setBitReg 0 .l s

/-- R256: `SET 0,(HL)`, 0xCB 0xC6. -/
def execSet0AtHl (s : State) : Result := setBitAtHl 0 s

/-- R255: `SET 0,A`, 0xCB 0xC7. -/
def execSet0A (s : State) : Result := setBitReg 0 .a s

/-- R255: `SET 1,B`, 0xCB 0xC8. -/
def execSet1B (s : State) : Result := setBitReg 1 .b s

/-- R255: `SET 1,C`, 0xCB 0xC9. -/
def execSet1C (s : State) : Result := setBitReg 1 .c s

/-- R255: `SET 1,D`, 0xCB 0xCA. -/
def execSet1D (s : State) : Result := setBitReg 1 .d s

/-- R255: `SET 1,E`, 0xCB 0xCB. -/
def execSet1E (s : State) : Result := setBitReg 1 .e s

/-- R255: `SET 1,H`, 0xCB 0xCC. -/
def execSet1H (s : State) : Result := setBitReg 1 .h s

/-- R255: `SET 1,L`, 0xCB 0xCD. -/
def execSet1L (s : State) : Result := setBitReg 1 .l s

/-- R256: `SET 1,(HL)`, 0xCB 0xCE. -/
def execSet1AtHl (s : State) : Result := setBitAtHl 1 s

/-- R255: `SET 1,A`, 0xCB 0xCF. -/
def execSet1A (s : State) : Result := setBitReg 1 .a s

/-- R255: `SET 2,B`, 0xCB 0xD0. -/
def execSet2B (s : State) : Result := setBitReg 2 .b s

/-- R255: `SET 2,C`, 0xCB 0xD1. -/
def execSet2C (s : State) : Result := setBitReg 2 .c s

/-- R255: `SET 2,D`, 0xCB 0xD2. -/
def execSet2D (s : State) : Result := setBitReg 2 .d s

/-- R255: `SET 2,E`, 0xCB 0xD3. -/
def execSet2E (s : State) : Result := setBitReg 2 .e s

/-- R255: `SET 2,H`, 0xCB 0xD4. -/
def execSet2H (s : State) : Result := setBitReg 2 .h s

/-- R255: `SET 2,L`, 0xCB 0xD5. -/
def execSet2L (s : State) : Result := setBitReg 2 .l s

/-- R256: `SET 2,(HL)`, 0xCB 0xD6. -/
def execSet2AtHl (s : State) : Result := setBitAtHl 2 s

/-- R255: `SET 2,A`, 0xCB 0xD7. -/
def execSet2A (s : State) : Result := setBitReg 2 .a s

/-- R255: `SET 3,B`, 0xCB 0xD8. -/
def execSet3B (s : State) : Result := setBitReg 3 .b s

/-- R255: `SET 3,C`, 0xCB 0xD9. -/
def execSet3C (s : State) : Result := setBitReg 3 .c s

/-- R255: `SET 3,D`, 0xCB 0xDA. -/
def execSet3D (s : State) : Result := setBitReg 3 .d s

/-- R255: `SET 3,E`, 0xCB 0xDB. -/
def execSet3E (s : State) : Result := setBitReg 3 .e s

/-- R255: `SET 3,H`, 0xCB 0xDC. -/
def execSet3H (s : State) : Result := setBitReg 3 .h s

/-- R255: `SET 3,L`, 0xCB 0xDD. -/
def execSet3L (s : State) : Result := setBitReg 3 .l s

/-- R256: `SET 3,(HL)`, 0xCB 0xDE. -/
def execSet3AtHl (s : State) : Result := setBitAtHl 3 s

/-- R255: `SET 3,A`, 0xCB 0xDF. -/
def execSet3A (s : State) : Result := setBitReg 3 .a s

/-- R255: `SET 4,B`, 0xCB 0xE0. -/
def execSet4B (s : State) : Result := setBitReg 4 .b s

/-- R255: `SET 4,C`, 0xCB 0xE1. -/
def execSet4C (s : State) : Result := setBitReg 4 .c s

/-- R255: `SET 4,D`, 0xCB 0xE2. -/
def execSet4D (s : State) : Result := setBitReg 4 .d s

/-- R255: `SET 4,E`, 0xCB 0xE3. -/
def execSet4E (s : State) : Result := setBitReg 4 .e s

/-- R255: `SET 4,H`, 0xCB 0xE4. -/
def execSet4H (s : State) : Result := setBitReg 4 .h s

/-- R255: `SET 4,L`, 0xCB 0xE5. -/
def execSet4L (s : State) : Result := setBitReg 4 .l s

/-- R256: `SET 4,(HL)`, 0xCB 0xE6. -/
def execSet4AtHl (s : State) : Result := setBitAtHl 4 s

/-- R255: `SET 4,A`, 0xCB 0xE7. -/
def execSet4A (s : State) : Result := setBitReg 4 .a s

/-- R255: `SET 5,B`, 0xCB 0xE8. -/
def execSet5B (s : State) : Result := setBitReg 5 .b s

/-- R255: `SET 5,C`, 0xCB 0xE9. -/
def execSet5C (s : State) : Result := setBitReg 5 .c s

/-- R255: `SET 5,D`, 0xCB 0xEA. -/
def execSet5D (s : State) : Result := setBitReg 5 .d s

/-- R255: `SET 5,E`, 0xCB 0xEB. -/
def execSet5E (s : State) : Result := setBitReg 5 .e s

/-- R255: `SET 5,H`, 0xCB 0xEC. -/
def execSet5H (s : State) : Result := setBitReg 5 .h s

/-- R255: `SET 5,L`, 0xCB 0xED. -/
def execSet5L (s : State) : Result := setBitReg 5 .l s

/-- R256: `SET 5,(HL)`, 0xCB 0xEE. -/
def execSet5AtHl (s : State) : Result := setBitAtHl 5 s

/-- R255: `SET 5,A`, 0xCB 0xEF. -/
def execSet5A (s : State) : Result := setBitReg 5 .a s

/-- R255: `SET 6,B`, 0xCB 0xF0. -/
def execSet6B (s : State) : Result := setBitReg 6 .b s

/-- R255: `SET 6,C`, 0xCB 0xF1. -/
def execSet6C (s : State) : Result := setBitReg 6 .c s

/-- R255: `SET 6,D`, 0xCB 0xF2. -/
def execSet6D (s : State) : Result := setBitReg 6 .d s

/-- R255: `SET 6,E`, 0xCB 0xF3. -/
def execSet6E (s : State) : Result := setBitReg 6 .e s

/-- R255: `SET 6,H`, 0xCB 0xF4. -/
def execSet6H (s : State) : Result := setBitReg 6 .h s

/-- R255: `SET 6,L`, 0xCB 0xF5. -/
def execSet6L (s : State) : Result := setBitReg 6 .l s

/-- R256: `SET 6,(HL)`, 0xCB 0xF6. -/
def execSet6AtHl (s : State) : Result := setBitAtHl 6 s

/-- R255: `SET 6,A`, 0xCB 0xF7. -/
def execSet6A (s : State) : Result := setBitReg 6 .a s

/-- R255: `SET 7,B`, 0xCB 0xF8. -/
def execSet7B (s : State) : Result := setBitReg 7 .b s

/-- R255: `SET 7,C`, 0xCB 0xF9. -/
def execSet7C (s : State) : Result := setBitReg 7 .c s

/-- R255: `SET 7,D`, 0xCB 0xFA. -/
def execSet7D (s : State) : Result := setBitReg 7 .d s

/-- R255: `SET 7,E`, 0xCB 0xFB. -/
def execSet7E (s : State) : Result := setBitReg 7 .e s

/-- R255: `SET 7,H`, 0xCB 0xFC. -/
def execSet7H (s : State) : Result := setBitReg 7 .h s

/-- R255: `SET 7,L`, 0xCB 0xFD. -/
def execSet7L (s : State) : Result := setBitReg 7 .l s

/-- R256: `SET 7,(HL)`, 0xCB 0xFE. -/
def execSet7AtHl (s : State) : Result := setBitAtHl 7 s

/-- R255: `SET 7,A`, 0xCB 0xFF. -/
def execSet7A (s : State) : Result := setBitReg 7 .a s

end Sys2Proof.Machine
end

