-- ==== Sys2Proof/Machine/Control.lean ====
section
/-! DEFINITION. Jumps, calls, returns, restarts (46_control_transfer.md). No instruction of this file writes F.
A meaning takes the state with `pc` at the instruction's first byte and its immediate already fetched; it moves `pc`
past the instruction itself (40_primitives_dispatch.md R111, R113). -/

namespace Sys2Proof.Machine

/-- `pc <- pc +16 sext_16(e)` with `pc` already past the displacement (R268). -/
def jumpRelative (e : Byte) (s : State) : State := s.setPc (s.pc + sext16 e)

/-- `Push16(pc) ; pc <- target` with `pc` already the return address (R270, R275). -/
def callTo (target : Addr) (s : State) : Result :=
  push16 s.pc s fun s => .next (s.setPc target)

/-- `pc <- Pop16()` (R272), then `k`. -/
def returnTo (s : State) (k : State → Result) : Result :=
  pop16 s fun v s => k (s.setPc v)

/-- R266: `JP cc,nn`. -/
def jumpIf (cc : Cond) (nn : Addr) (s : State) : Result :=
  if s.cond cc then .next (s.setPc nn) else .next (s.advance 3)

/-- R269: `JR cc,e`. -/
def jumpRelativeIf (cc : Cond) (e : Byte) (s : State) : Result :=
  if s.cond cc then .next (jumpRelative e (s.advance 2)) else .next (s.advance 2)

/-- R271: `CALL cc,nn`. -/
def callIf (cc : Cond) (nn : Addr) (s : State) : Result :=
  if s.cond cc then callTo nn (s.advance 3) else .next (s.advance 3)

/-- R273: `RET cc`. -/
def returnIf (cc : Cond) (s : State) : Result :=
  if s.cond cc then returnTo (s.advance 1) .next else .next (s.advance 1)

/-- R268: `JR e`, 0x18. -/
def execJrE (e : Byte) (s : State) : Result := .next (jumpRelative e (s.advance 2))

/-- R269: `JR NZ,e`, 0x20. -/
def execJrNzE (e : Byte) (s : State) : Result := jumpRelativeIf .nz e s

/-- R269: `JR Z,e`, 0x28. -/
def execJrZE (e : Byte) (s : State) : Result := jumpRelativeIf .z e s

/-- R269: `JR NC,e`, 0x30. -/
def execJrNcE (e : Byte) (s : State) : Result := jumpRelativeIf .nc e s

/-- R269: `JR C,e`, 0x38. -/
def execJrCE (e : Byte) (s : State) : Result := jumpRelativeIf .c e s

/-- R273: `RET NZ`, 0xC0. -/
def execRetNz (s : State) : Result := returnIf .nz s

/-- R266: `JP NZ,nn`, 0xC2. -/
def execJpNzNn (nn : Addr) (s : State) : Result := jumpIf .nz nn s

/-- R265: `JP nn`, 0xC3. -/
def execJpNn (nn : Addr) (s : State) : Result := .next (s.setPc nn)

/-- R271: `CALL NZ,nn`, 0xC4. -/
def execCallNzNn (nn : Addr) (s : State) : Result := callIf .nz nn s

/-- R275: `RST 0x00`, 0xC7. -/
def execRst00 (s : State) : Result := callTo 0x00 (s.advance 1)

/-- R273: `RET Z`, 0xC8. -/
def execRetZ (s : State) : Result := returnIf .z s

/-- R272: `RET`, 0xC9. -/
def execRet (s : State) : Result := returnTo (s.advance 1) .next

/-- R266: `JP Z,nn`, 0xCA. -/
def execJpZNn (nn : Addr) (s : State) : Result := jumpIf .z nn s

/-- R271: `CALL Z,nn`, 0xCC. -/
def execCallZNn (nn : Addr) (s : State) : Result := callIf .z nn s

/-- R270: `CALL nn`, 0xCD. -/
def execCallNn (nn : Addr) (s : State) : Result := callTo nn (s.advance 3)

/-- R275: `RST 0x08`, 0xCF. -/
def execRst08 (s : State) : Result := callTo 0x08 (s.advance 1)

/-- R273: `RET NC`, 0xD0. -/
def execRetNc (s : State) : Result := returnIf .nc s

/-- R266: `JP NC,nn`, 0xD2. -/
def execJpNcNn (nn : Addr) (s : State) : Result := jumpIf .nc nn s

/-- R271: `CALL NC,nn`, 0xD4. -/
def execCallNcNn (nn : Addr) (s : State) : Result := callIf .nc nn s

/-- R275: `RST 0x10`, 0xD7. -/
def execRst10 (s : State) : Result := callTo 0x10 (s.advance 1)

/-- R273: `RET C`, 0xD8. -/
def execRetC (s : State) : Result := returnIf .c s

/-- R274: `RETI`, 0xD9. -/
def execReti (s : State) : Result :=
  returnTo (s.advance 1) fun s => writeByte s.params.ieAddr s.params.eiSentinel s .next

/-- R266: `JP C,nn`, 0xDA. -/
def execJpCNn (nn : Addr) (s : State) : Result := jumpIf .c nn s

/-- R271: `CALL C,nn`, 0xDC. -/
def execCallCNn (nn : Addr) (s : State) : Result := callIf .c nn s

/-- R275: `RST 0x18`, 0xDF. -/
def execRst18 (s : State) : Result := callTo 0x18 (s.advance 1)

/-- R275: `RST 0x20`, 0xE7. -/
def execRst20 (s : State) : Result := callTo 0x20 (s.advance 1)

/-- R267: `JP HL`, 0xE9. -/
def execJpHl (s : State) : Result := .next (s.setPc s.hl)

/-- R275: `RST 0x28`, 0xEF. -/
def execRst28 (s : State) : Result := callTo 0x28 (s.advance 1)

/-- R275: `RST 0x30`, 0xF7. -/
def execRst30 (s : State) : Result := callTo 0x30 (s.advance 1)

/-- R275: `RST 0x38`, 0xFF. -/
def execRst38 (s : State) : Result := callTo 0x38 (s.advance 1)

end Sys2Proof.Machine
end

