-- ==== Sys2Proof/Machine/Load8.lean ====
section
/-! DEFINITION. 8-bit loads and stores (41_load_8bit.md). No instruction of this file writes F.
A meaning takes the state with `pc` at the instruction's first byte and its immediate already fetched; it moves `pc`
past the instruction itself (40_primitives_dispatch.md R111, R113). -/

namespace Sys2Proof.Machine

/-- R130: `x[r] <- x[r']`. -/
def loadRegReg (dst src : Reg8) (s : State) : Result :=
  .next ((s.advance 1).setReg dst (s.reg src))

/-- R131: `x[r] <- MemRead(xx[HL], 1)`. -/
def loadRegAtHl (dst : Reg8) (s : State) : Result :=
  let s := s.advance 1
  readByte s.hl s fun v s => .next (s.setReg dst v)

/-- R132: `MemWrite(xx[HL], 1, x[r])`. -/
def storeAtHl (src : Reg8) (s : State) : Result :=
  let s := s.advance 1
  writeByte s.hl (s.reg src) s .next

/-- R133: `x[r] <- n`. -/
def loadRegImm (dst : Reg8) (n : Byte) (s : State) : Result :=
  .next ((s.advance 2).setReg dst n)

/-- R134: `MemWrite(xx[HL], 1, n)`. -/
def storeAtHlImm (n : Byte) (s : State) : Result :=
  let s := s.advance 2
  writeByte s.hl n s .next

/-- R135, R136: `x[A] <- MemRead(xx[p], 1)`. -/
def loadAccAtPair (p : Pair) (s : State) : Result :=
  let s := s.advance 1
  readByte (s.pair p) s fun v s => .next (s.setReg .a v)

/-- R137, R138: `MemWrite(xx[p], 1, x[A])`. -/
def storeAccAtPair (p : Pair) (s : State) : Result :=
  let s := s.advance 1
  writeByte (s.pair p) s.a s .next

/-- R139: `x[A] <- MemRead(nn, 1)`. -/
def loadAccAtImm (nn : Addr) (s : State) : Result :=
  let s := s.advance 3
  readByte nn s fun v s => .next (s.setReg .a v)

/-- R140: `MemWrite(nn, 1, x[A])`. -/
def storeAccAtImm (nn : Addr) (s : State) : Result :=
  let s := s.advance 3
  writeByte nn s.a s .next

/-- R142, R144: `x[A] <- MemRead(xx[HL], 1)`, then HL becomes `adjust HL`. -/
def loadAccStepHl (adjust : Addr → Addr) (s : State) : Result :=
  let s := s.advance 1
  readByte s.hl s fun v s => .next ((s.setReg .a v).setPair .hl (adjust s.hl))

/-- R141, R143: `MemWrite(xx[HL], 1, x[A])`, then HL becomes `adjust HL`. -/
def storeAccStepHl (adjust : Addr → Addr) (s : State) : Result :=
  let s := s.advance 1
  writeByte s.hl s.a s fun s => .next (s.setPair .hl (adjust s.hl))

/-- R146, R148 after the fetch: `x[A] <- MemRead(HighAddr(off), 1)`. -/
def loadAccHigh (off : Byte) (s : State) : Result :=
  highAddr off s fun addr => readByte addr s fun v s => .next (s.setReg .a v)

/-- R145, R147 after the fetch: `MemWrite(HighAddr(off), 1, x[A])`. -/
def storeAccHigh (off : Byte) (s : State) : Result :=
  highAddr off s fun addr => writeByte addr s.a s .next

/-- R137: `LD (BC),A`, 0x02. -/
def execLdAtBcA (s : State) : Result := storeAccAtPair .bc s

/-- R133: `LD B,n`, 0x06. -/
def execLdBN (n : Byte) (s : State) : Result := loadRegImm .b n s

/-- R135: `LD A,(BC)`, 0x0A. -/
def execLdAAtBc (s : State) : Result := loadAccAtPair .bc s

/-- R133: `LD C,n`, 0x0E. -/
def execLdCN (n : Byte) (s : State) : Result := loadRegImm .c n s

/-- R138: `LD (DE),A`, 0x12. -/
def execLdAtDeA (s : State) : Result := storeAccAtPair .de s

/-- R133: `LD D,n`, 0x16. -/
def execLdDN (n : Byte) (s : State) : Result := loadRegImm .d n s

/-- R136: `LD A,(DE)`, 0x1A. -/
def execLdAAtDe (s : State) : Result := loadAccAtPair .de s

/-- R133: `LD E,n`, 0x1E. -/
def execLdEN (n : Byte) (s : State) : Result := loadRegImm .e n s

/-- R141: `LD (HL+),A`, 0x22. -/
def execLdAtHlIncA (s : State) : Result := storeAccStepHl (· + 1) s

/-- R133: `LD H,n`, 0x26. -/
def execLdHN (n : Byte) (s : State) : Result := loadRegImm .h n s

/-- R142: `LD A,(HL+)`, 0x2A. -/
def execLdAAtHlInc (s : State) : Result := loadAccStepHl (· + 1) s

/-- R133: `LD L,n`, 0x2E. -/
def execLdLN (n : Byte) (s : State) : Result := loadRegImm .l n s

/-- R143: `LD (HL-),A`, 0x32. -/
def execLdAtHlDecA (s : State) : Result := storeAccStepHl (· - 1) s

/-- R134: `LD (HL),n`, 0x36. -/
def execLdAtHlN (n : Byte) (s : State) : Result := storeAtHlImm n s

/-- R144: `LD A,(HL-)`, 0x3A. -/
def execLdAAtHlDec (s : State) : Result := loadAccStepHl (· - 1) s

/-- R133: `LD A,n`, 0x3E. -/
def execLdAN (n : Byte) (s : State) : Result := loadRegImm .a n s

/-- R130: `LD B,B`, 0x40. -/
def execLdBB (s : State) : Result := loadRegReg .b .b s

/-- R130: `LD B,C`, 0x41. -/
def execLdBC (s : State) : Result := loadRegReg .b .c s

/-- R130: `LD B,D`, 0x42. -/
def execLdBD (s : State) : Result := loadRegReg .b .d s

/-- R130: `LD B,E`, 0x43. -/
def execLdBE (s : State) : Result := loadRegReg .b .e s

/-- R130: `LD B,H`, 0x44. -/
def execLdBH (s : State) : Result := loadRegReg .b .h s

/-- R130: `LD B,L`, 0x45. -/
def execLdBL (s : State) : Result := loadRegReg .b .l s

/-- R131: `LD B,(HL)`, 0x46. -/
def execLdBAtHl (s : State) : Result := loadRegAtHl .b s

/-- R130: `LD B,A`, 0x47. -/
def execLdBA (s : State) : Result := loadRegReg .b .a s

/-- R130: `LD C,B`, 0x48. -/
def execLdCB (s : State) : Result := loadRegReg .c .b s

/-- R130: `LD C,C`, 0x49. -/
def execLdCC (s : State) : Result := loadRegReg .c .c s

/-- R130: `LD C,D`, 0x4A. -/
def execLdCD (s : State) : Result := loadRegReg .c .d s

/-- R130: `LD C,E`, 0x4B. -/
def execLdCE (s : State) : Result := loadRegReg .c .e s

/-- R130: `LD C,H`, 0x4C. -/
def execLdCH (s : State) : Result := loadRegReg .c .h s

/-- R130: `LD C,L`, 0x4D. -/
def execLdCL (s : State) : Result := loadRegReg .c .l s

/-- R131: `LD C,(HL)`, 0x4E. -/
def execLdCAtHl (s : State) : Result := loadRegAtHl .c s

/-- R130: `LD C,A`, 0x4F. -/
def execLdCA (s : State) : Result := loadRegReg .c .a s

/-- R130: `LD D,B`, 0x50. -/
def execLdDB (s : State) : Result := loadRegReg .d .b s

/-- R130: `LD D,C`, 0x51. -/
def execLdDC (s : State) : Result := loadRegReg .d .c s

/-- R130: `LD D,D`, 0x52. -/
def execLdDD (s : State) : Result := loadRegReg .d .d s

/-- R130: `LD D,E`, 0x53. -/
def execLdDE (s : State) : Result := loadRegReg .d .e s

/-- R130: `LD D,H`, 0x54. -/
def execLdDH (s : State) : Result := loadRegReg .d .h s

/-- R130: `LD D,L`, 0x55. -/
def execLdDL (s : State) : Result := loadRegReg .d .l s

/-- R131: `LD D,(HL)`, 0x56. -/
def execLdDAtHl (s : State) : Result := loadRegAtHl .d s

/-- R130: `LD D,A`, 0x57. -/
def execLdDA (s : State) : Result := loadRegReg .d .a s

/-- R130: `LD E,B`, 0x58. -/
def execLdEB (s : State) : Result := loadRegReg .e .b s

/-- R130: `LD E,C`, 0x59. -/
def execLdEC (s : State) : Result := loadRegReg .e .c s

/-- R130: `LD E,D`, 0x5A. -/
def execLdED (s : State) : Result := loadRegReg .e .d s

/-- R130: `LD E,E`, 0x5B. -/
def execLdEE (s : State) : Result := loadRegReg .e .e s

/-- R130: `LD E,H`, 0x5C. -/
def execLdEH (s : State) : Result := loadRegReg .e .h s

/-- R130: `LD E,L`, 0x5D. -/
def execLdEL (s : State) : Result := loadRegReg .e .l s

/-- R131: `LD E,(HL)`, 0x5E. -/
def execLdEAtHl (s : State) : Result := loadRegAtHl .e s

/-- R130: `LD E,A`, 0x5F. -/
def execLdEA (s : State) : Result := loadRegReg .e .a s

/-- R130: `LD H,B`, 0x60. -/
def execLdHB (s : State) : Result := loadRegReg .h .b s

/-- R130: `LD H,C`, 0x61. -/
def execLdHC (s : State) : Result := loadRegReg .h .c s

/-- R130: `LD H,D`, 0x62. -/
def execLdHD (s : State) : Result := loadRegReg .h .d s

/-- R130: `LD H,E`, 0x63. -/
def execLdHE (s : State) : Result := loadRegReg .h .e s

/-- R130: `LD H,H`, 0x64. -/
def execLdHH (s : State) : Result := loadRegReg .h .h s

/-- R130: `LD H,L`, 0x65. -/
def execLdHL (s : State) : Result := loadRegReg .h .l s

/-- R131: `LD H,(HL)`, 0x66. -/
def execLdHAtHl (s : State) : Result := loadRegAtHl .h s

/-- R130: `LD H,A`, 0x67. -/
def execLdHA (s : State) : Result := loadRegReg .h .a s

/-- R130: `LD L,B`, 0x68. -/
def execLdLB (s : State) : Result := loadRegReg .l .b s

/-- R130: `LD L,C`, 0x69. -/
def execLdLC (s : State) : Result := loadRegReg .l .c s

/-- R130: `LD L,D`, 0x6A. -/
def execLdLD (s : State) : Result := loadRegReg .l .d s

/-- R130: `LD L,E`, 0x6B. -/
def execLdLE (s : State) : Result := loadRegReg .l .e s

/-- R130: `LD L,H`, 0x6C. -/
def execLdLH (s : State) : Result := loadRegReg .l .h s

/-- R130: `LD L,L`, 0x6D. -/
def execLdLL (s : State) : Result := loadRegReg .l .l s

/-- R131: `LD L,(HL)`, 0x6E. -/
def execLdLAtHl (s : State) : Result := loadRegAtHl .l s

/-- R130: `LD L,A`, 0x6F. -/
def execLdLA (s : State) : Result := loadRegReg .l .a s

/-- R132: `LD (HL),B`, 0x70. -/
def execLdAtHlB (s : State) : Result := storeAtHl .b s

/-- R132: `LD (HL),C`, 0x71. -/
def execLdAtHlC (s : State) : Result := storeAtHl .c s

/-- R132: `LD (HL),D`, 0x72. -/
def execLdAtHlD (s : State) : Result := storeAtHl .d s

/-- R132: `LD (HL),E`, 0x73. -/
def execLdAtHlE (s : State) : Result := storeAtHl .e s

/-- R132: `LD (HL),H`, 0x74. -/
def execLdAtHlH (s : State) : Result := storeAtHl .h s

/-- R132: `LD (HL),L`, 0x75. -/
def execLdAtHlL (s : State) : Result := storeAtHl .l s

/-- R132: `LD (HL),A`, 0x77. -/
def execLdAtHlA (s : State) : Result := storeAtHl .a s

/-- R130: `LD A,B`, 0x78. -/
def execLdAB (s : State) : Result := loadRegReg .a .b s

/-- R130: `LD A,C`, 0x79. -/
def execLdAC (s : State) : Result := loadRegReg .a .c s

/-- R130: `LD A,D`, 0x7A. -/
def execLdAD (s : State) : Result := loadRegReg .a .d s

/-- R130: `LD A,E`, 0x7B. -/
def execLdAE (s : State) : Result := loadRegReg .a .e s

/-- R130: `LD A,H`, 0x7C. -/
def execLdAH (s : State) : Result := loadRegReg .a .h s

/-- R130: `LD A,L`, 0x7D. -/
def execLdAL (s : State) : Result := loadRegReg .a .l s

/-- R131: `LD A,(HL)`, 0x7E. -/
def execLdAAtHl (s : State) : Result := loadRegAtHl .a s

/-- R130: `LD A,A`, 0x7F. -/
def execLdAA (s : State) : Result := loadRegReg .a .a s

/-- R145: `LDH (n),A`, 0xE0. -/
def execLdhAtNA (n : Byte) (s : State) : Result := storeAccHigh n (s.advance 2)

/-- R147: `LD (C),A`, 0xE2. -/
def execLdAtCA (s : State) : Result := storeAccHigh s.c (s.advance 1)

/-- R140: `LD (nn),A`, 0xEA. -/
def execLdAtNnA (nn : Addr) (s : State) : Result := storeAccAtImm nn s

/-- R146: `LDH A,(n)`, 0xF0. -/
def execLdhAAtN (n : Byte) (s : State) : Result := loadAccHigh n (s.advance 2)

/-- R148: `LD A,(C)`, 0xF2. -/
def execLdAAtC (s : State) : Result := loadAccHigh s.c (s.advance 1)

/-- R139: `LD A,(nn)`, 0xFA. -/
def execLdAAtNn (nn : Addr) (s : State) : Result := loadAccAtImm nn s

end Sys2Proof.Machine
end

