-- ==== Sys2Proof/Machine/Rotate.lean ====
section
/-! DEFINITION. Rotates, shifts and SWAP (45_rotate_shift_bit.md R230 to R250).
A meaning takes the state with `pc` at the instruction's first byte and its immediate already fetched; it moves `pc`
past the instruction itself (40_primitives_dispatch.md R111, R113). -/

namespace Sys2Proof.Machine

/-- R230 to R233: the one-byte accumulator rotates; Z, N and H are cleared. -/
def rotateAcc (op : RotOp) (s : State) : Result :=
  let (v, c) := rotate op s.a s.flagC
  .next (((s.advance 1).setReg .a v).setFlags false false false c)

/-- The register forms of R235 to R249. -/
def rotateReg (op : RotOp) (r : Reg8) (s : State) : Result :=
  let (v, c) := rotate op (s.reg r) s.flagC
  .next (((s.advance 2).setReg r v).setFlags (decide (v = 0)) false false c)

/-- The `(HL)` forms of R236 to R250; the flags follow the store. -/
def rotateAtHl (op : RotOp) (s : State) : Result :=
  let s := s.advance 2
  readByte s.hl s fun old s =>
    let (v, c) := rotate op old s.flagC
    writeByte s.hl v s fun s => .next (s.setFlags (decide (v = 0)) false false c)

/-- R230: `RLCA`, 0x07. -/
def execRlca (s : State) : Result := rotateAcc .rlc s

/-- R231: `RRCA`, 0x0F. -/
def execRrca (s : State) : Result := rotateAcc .rrc s

/-- R232: `RLA`, 0x17. -/
def execRla (s : State) : Result := rotateAcc .rl s

/-- R233: `RRA`, 0x1F. -/
def execRra (s : State) : Result := rotateAcc .rr s

/-- R235: `RLC B`, 0xCB 0x00. -/
def execRlcB (s : State) : Result := rotateReg .rlc .b s

/-- R235: `RLC C`, 0xCB 0x01. -/
def execRlcC (s : State) : Result := rotateReg .rlc .c s

/-- R235: `RLC D`, 0xCB 0x02. -/
def execRlcD (s : State) : Result := rotateReg .rlc .d s

/-- R235: `RLC E`, 0xCB 0x03. -/
def execRlcE (s : State) : Result := rotateReg .rlc .e s

/-- R235: `RLC H`, 0xCB 0x04. -/
def execRlcH (s : State) : Result := rotateReg .rlc .h s

/-- R235: `RLC L`, 0xCB 0x05. -/
def execRlcL (s : State) : Result := rotateReg .rlc .l s

/-- R236: `RLC (HL)`, 0xCB 0x06. -/
def execRlcAtHl (s : State) : Result := rotateAtHl .rlc s

/-- R235: `RLC A`, 0xCB 0x07. -/
def execRlcA (s : State) : Result := rotateReg .rlc .a s

/-- R237: `RRC B`, 0xCB 0x08. -/
def execRrcB (s : State) : Result := rotateReg .rrc .b s

/-- R237: `RRC C`, 0xCB 0x09. -/
def execRrcC (s : State) : Result := rotateReg .rrc .c s

/-- R237: `RRC D`, 0xCB 0x0A. -/
def execRrcD (s : State) : Result := rotateReg .rrc .d s

/-- R237: `RRC E`, 0xCB 0x0B. -/
def execRrcE (s : State) : Result := rotateReg .rrc .e s

/-- R237: `RRC H`, 0xCB 0x0C. -/
def execRrcH (s : State) : Result := rotateReg .rrc .h s

/-- R237: `RRC L`, 0xCB 0x0D. -/
def execRrcL (s : State) : Result := rotateReg .rrc .l s

/-- R238: `RRC (HL)`, 0xCB 0x0E. -/
def execRrcAtHl (s : State) : Result := rotateAtHl .rrc s

/-- R237: `RRC A`, 0xCB 0x0F. -/
def execRrcA (s : State) : Result := rotateReg .rrc .a s

/-- R239: `RL B`, 0xCB 0x10. -/
def execRlB (s : State) : Result := rotateReg .rl .b s

/-- R239: `RL C`, 0xCB 0x11. -/
def execRlC (s : State) : Result := rotateReg .rl .c s

/-- R239: `RL D`, 0xCB 0x12. -/
def execRlD (s : State) : Result := rotateReg .rl .d s

/-- R239: `RL E`, 0xCB 0x13. -/
def execRlE (s : State) : Result := rotateReg .rl .e s

/-- R239: `RL H`, 0xCB 0x14. -/
def execRlH (s : State) : Result := rotateReg .rl .h s

/-- R239: `RL L`, 0xCB 0x15. -/
def execRlL (s : State) : Result := rotateReg .rl .l s

/-- R240: `RL (HL)`, 0xCB 0x16. -/
def execRlAtHl (s : State) : Result := rotateAtHl .rl s

/-- R239: `RL A`, 0xCB 0x17. -/
def execRlA (s : State) : Result := rotateReg .rl .a s

/-- R241: `RR B`, 0xCB 0x18. -/
def execRrB (s : State) : Result := rotateReg .rr .b s

/-- R241: `RR C`, 0xCB 0x19. -/
def execRrC (s : State) : Result := rotateReg .rr .c s

/-- R241: `RR D`, 0xCB 0x1A. -/
def execRrD (s : State) : Result := rotateReg .rr .d s

/-- R241: `RR E`, 0xCB 0x1B. -/
def execRrE (s : State) : Result := rotateReg .rr .e s

/-- R241: `RR H`, 0xCB 0x1C. -/
def execRrH (s : State) : Result := rotateReg .rr .h s

/-- R241: `RR L`, 0xCB 0x1D. -/
def execRrL (s : State) : Result := rotateReg .rr .l s

/-- R242: `RR (HL)`, 0xCB 0x1E. -/
def execRrAtHl (s : State) : Result := rotateAtHl .rr s

/-- R241: `RR A`, 0xCB 0x1F. -/
def execRrA (s : State) : Result := rotateReg .rr .a s

/-- R243: `SLA B`, 0xCB 0x20. -/
def execSlaB (s : State) : Result := rotateReg .sla .b s

/-- R243: `SLA C`, 0xCB 0x21. -/
def execSlaC (s : State) : Result := rotateReg .sla .c s

/-- R243: `SLA D`, 0xCB 0x22. -/
def execSlaD (s : State) : Result := rotateReg .sla .d s

/-- R243: `SLA E`, 0xCB 0x23. -/
def execSlaE (s : State) : Result := rotateReg .sla .e s

/-- R243: `SLA H`, 0xCB 0x24. -/
def execSlaH (s : State) : Result := rotateReg .sla .h s

/-- R243: `SLA L`, 0xCB 0x25. -/
def execSlaL (s : State) : Result := rotateReg .sla .l s

/-- R244: `SLA (HL)`, 0xCB 0x26. -/
def execSlaAtHl (s : State) : Result := rotateAtHl .sla s

/-- R243: `SLA A`, 0xCB 0x27. -/
def execSlaA (s : State) : Result := rotateReg .sla .a s

/-- R245: `SRA B`, 0xCB 0x28. -/
def execSraB (s : State) : Result := rotateReg .sra .b s

/-- R245: `SRA C`, 0xCB 0x29. -/
def execSraC (s : State) : Result := rotateReg .sra .c s

/-- R245: `SRA D`, 0xCB 0x2A. -/
def execSraD (s : State) : Result := rotateReg .sra .d s

/-- R245: `SRA E`, 0xCB 0x2B. -/
def execSraE (s : State) : Result := rotateReg .sra .e s

/-- R245: `SRA H`, 0xCB 0x2C. -/
def execSraH (s : State) : Result := rotateReg .sra .h s

/-- R245: `SRA L`, 0xCB 0x2D. -/
def execSraL (s : State) : Result := rotateReg .sra .l s

/-- R246: `SRA (HL)`, 0xCB 0x2E. -/
def execSraAtHl (s : State) : Result := rotateAtHl .sra s

/-- R245: `SRA A`, 0xCB 0x2F. -/
def execSraA (s : State) : Result := rotateReg .sra .a s

/-- R247: `SWAP B`, 0xCB 0x30. -/
def execSwapB (s : State) : Result := rotateReg .swap .b s

/-- R247: `SWAP C`, 0xCB 0x31. -/
def execSwapC (s : State) : Result := rotateReg .swap .c s

/-- R247: `SWAP D`, 0xCB 0x32. -/
def execSwapD (s : State) : Result := rotateReg .swap .d s

/-- R247: `SWAP E`, 0xCB 0x33. -/
def execSwapE (s : State) : Result := rotateReg .swap .e s

/-- R247: `SWAP H`, 0xCB 0x34. -/
def execSwapH (s : State) : Result := rotateReg .swap .h s

/-- R247: `SWAP L`, 0xCB 0x35. -/
def execSwapL (s : State) : Result := rotateReg .swap .l s

/-- R248: `SWAP (HL)`, 0xCB 0x36. -/
def execSwapAtHl (s : State) : Result := rotateAtHl .swap s

/-- R247: `SWAP A`, 0xCB 0x37. -/
def execSwapA (s : State) : Result := rotateReg .swap .a s

/-- R249: `SRL B`, 0xCB 0x38. -/
def execSrlB (s : State) : Result := rotateReg .srl .b s

/-- R249: `SRL C`, 0xCB 0x39. -/
def execSrlC (s : State) : Result := rotateReg .srl .c s

/-- R249: `SRL D`, 0xCB 0x3A. -/
def execSrlD (s : State) : Result := rotateReg .srl .d s

/-- R249: `SRL E`, 0xCB 0x3B. -/
def execSrlE (s : State) : Result := rotateReg .srl .e s

/-- R249: `SRL H`, 0xCB 0x3C. -/
def execSrlH (s : State) : Result := rotateReg .srl .h s

/-- R249: `SRL L`, 0xCB 0x3D. -/
def execSrlL (s : State) : Result := rotateReg .srl .l s

/-- R250: `SRL (HL)`, 0xCB 0x3E. -/
def execSrlAtHl (s : State) : Result := rotateAtHl .srl s

/-- R249: `SRL A`, 0xCB 0x3F. -/
def execSrlA (s : State) : Result := rotateReg .srl .a s

end Sys2Proof.Machine
end

