-- ==== Sys2Proof/WellFormed.lean ====
section
/-! DEFINITION. Which terms of `Instr` are complete instructions (30_encoding.md R80, R93). -/

namespace Sys2Proof

/-- Every immediate is a `BitVec` of the width the format gives it (30_encoding.md R81), so every value of an
operand is legal. The one term that is no instruction of its own is the prefix byte: "The byte 0xCB is not an
instruction by itself" (30_encoding.md R93); it is complete only with the extended opcode that follows it. -/
def WellFormed (i : Instr) : Bool :=
  i != .prefixCb

end Sys2Proof
end

