-- ==== Sys2Proof/Decode.lean ====
section
/-! DEFINITION. The decoder and the encoder (30_encoding.md). The decoder reads the fields of an opcode byte (R82) through
the operand tables (R83 to R87) as R90 and R91 say; the encoder lists the opcode byte of every row of
spec/opcode_table.json. Instructions of one shape are named by their operands: `Instr.ldRegReg .b .c` is `LD B,C`. -/

namespace Sys2Proof

/-! ### Instructions by shape and operand -/

/-- `LD r,r'` (R130). -/
def Instr.ldRegReg (dst src : Reg8) : Instr :=
  match dst, src with
  | .a, .a => .ldAA
  | .a, .b => .ldAB
  | .a, .c => .ldAC
  | .a, .d => .ldAD
  | .a, .e => .ldAE
  | .a, .h => .ldAH
  | .a, .l => .ldAL
  | .b, .a => .ldBA
  | .b, .b => .ldBB
  | .b, .c => .ldBC
  | .b, .d => .ldBD
  | .b, .e => .ldBE
  | .b, .h => .ldBH
  | .b, .l => .ldBL
  | .c, .a => .ldCA
  | .c, .b => .ldCB
  | .c, .c => .ldCC
  | .c, .d => .ldCD
  | .c, .e => .ldCE
  | .c, .h => .ldCH
  | .c, .l => .ldCL
  | .d, .a => .ldDA
  | .d, .b => .ldDB
  | .d, .c => .ldDC
  | .d, .d => .ldDD
  | .d, .e => .ldDE
  | .d, .h => .ldDH
  | .d, .l => .ldDL
  | .e, .a => .ldEA
  | .e, .b => .ldEB
  | .e, .c => .ldEC
  | .e, .d => .ldED
  | .e, .e => .ldEE
  | .e, .h => .ldEH
  | .e, .l => .ldEL
  | .h, .a => .ldHA
  | .h, .b => .ldHB
  | .h, .c => .ldHC
  | .h, .d => .ldHD
  | .h, .e => .ldHE
  | .h, .h => .ldHH
  | .h, .l => .ldHL
  | .l, .a => .ldLA
  | .l, .b => .ldLB
  | .l, .c => .ldLC
  | .l, .d => .ldLD
  | .l, .e => .ldLE
  | .l, .h => .ldLH
  | .l, .l => .ldLL

/-- `LD r,(HL)` (R131). -/
def Instr.ldRegAtHl (r : Reg8) : Instr :=
  match r with
  | .a => .ldAAtHl
  | .b => .ldBAtHl
  | .c => .ldCAtHl
  | .d => .ldDAtHl
  | .e => .ldEAtHl
  | .h => .ldHAtHl
  | .l => .ldLAtHl

/-- `LD (HL),r` (R132). -/
def Instr.ldAtHlReg (r : Reg8) : Instr :=
  match r with
  | .a => .ldAtHlA
  | .b => .ldAtHlB
  | .c => .ldAtHlC
  | .d => .ldAtHlD
  | .e => .ldAtHlE
  | .h => .ldAtHlH
  | .l => .ldAtHlL

/-- `LD r,n` (R133). -/
def Instr.ldRegImm (r : Reg8) (n : Byte) : Instr :=
  match r with
  | .a => .ldAN n
  | .b => .ldBN n
  | .c => .ldCN n
  | .d => .ldDN n
  | .e => .ldEN n
  | .h => .ldHN n
  | .l => .ldLN n

/-- `INC r` (R180). -/
def Instr.incReg (r : Reg8) : Instr :=
  match r with
  | .a => .incA
  | .b => .incB
  | .c => .incC
  | .d => .incD
  | .e => .incE
  | .h => .incH
  | .l => .incL

/-- `DEC r` (R182). -/
def Instr.decReg (r : Reg8) : Instr :=
  match r with
  | .a => .decA
  | .b => .decB
  | .c => .decC
  | .d => .decD
  | .e => .decE
  | .h => .decH
  | .l => .decL

/-- The ALU operations on a register (R184, R187, R190, R193, R196, R199, R202, R205). -/
def Instr.aluReg (op : AluOp) (r : Reg8) : Instr :=
  match op, r with
  | .add, .a => .addAA
  | .add, .b => .addAB
  | .add, .c => .addAC
  | .add, .d => .addAD
  | .add, .e => .addAE
  | .add, .h => .addAH
  | .add, .l => .addAL
  | .adc, .a => .adcAA
  | .adc, .b => .adcAB
  | .adc, .c => .adcAC
  | .adc, .d => .adcAD
  | .adc, .e => .adcAE
  | .adc, .h => .adcAH
  | .adc, .l => .adcAL
  | .sub, .a => .subA
  | .sub, .b => .subB
  | .sub, .c => .subC
  | .sub, .d => .subD
  | .sub, .e => .subE
  | .sub, .h => .subH
  | .sub, .l => .subL
  | .sbc, .a => .sbcAA
  | .sbc, .b => .sbcAB
  | .sbc, .c => .sbcAC
  | .sbc, .d => .sbcAD
  | .sbc, .e => .sbcAE
  | .sbc, .h => .sbcAH
  | .sbc, .l => .sbcAL
  | .and, .a => .andA
  | .and, .b => .andB
  | .and, .c => .andC
  | .and, .d => .andD
  | .and, .e => .andE
  | .and, .h => .andH
  | .and, .l => .andL
  | .xor, .a => .xorA
  | .xor, .b => .xorB
  | .xor, .c => .xorC
  | .xor, .d => .xorD
  | .xor, .e => .xorE
  | .xor, .h => .xorH
  | .xor, .l => .xorL
  | .or, .a => .orA
  | .or, .b => .orB
  | .or, .c => .orC
  | .or, .d => .orD
  | .or, .e => .orE
  | .or, .h => .orH
  | .or, .l => .orL
  | .cp, .a => .cpA
  | .cp, .b => .cpB
  | .cp, .c => .cpC
  | .cp, .d => .cpD
  | .cp, .e => .cpE
  | .cp, .h => .cpH
  | .cp, .l => .cpL

/-- The ALU operations on the byte at HL (R185, R188, R191, R194, R197, R200, R203, R206). -/
def Instr.aluAtHl (op : AluOp) : Instr :=
  match op with
  | .add => .addAAtHl
  | .adc => .adcAAtHl
  | .sub => .subAtHl
  | .sbc => .sbcAAtHl
  | .and => .andAtHl
  | .xor => .xorAtHl
  | .or => .orAtHl
  | .cp => .cpAtHl

/-- The ALU operations on an immediate (R186, R189, R192, R195, R198, R201, R204, R207). -/
def Instr.aluImm (op : AluOp) (n : Byte) : Instr :=
  match op with
  | .add => .addAN n
  | .adc => .adcAN n
  | .sub => .subN n
  | .sbc => .sbcAN n
  | .and => .andN n
  | .xor => .xorN n
  | .or => .orN n
  | .cp => .cpN n

/-- `LD rr,nn` (R160). -/
def Instr.ldReg16Imm (rr : Reg16) (nn : Addr) : Instr :=
  match rr with
  | .bc => .ldBcNn nn
  | .de => .ldDeNn nn
  | .hl => .ldHlNn nn
  | .sp => .ldSpNn nn

/-- `INC rr` (R220). -/
def Instr.incReg16 (rr : Reg16) : Instr :=
  match rr with
  | .bc => .incBc
  | .de => .incDe
  | .hl => .incHl
  | .sp => .incSp

/-- `DEC rr` (R221). -/
def Instr.decReg16 (rr : Reg16) : Instr :=
  match rr with
  | .bc => .decBc
  | .de => .decDe
  | .hl => .decHl
  | .sp => .decSp

/-- `ADD HL,rr` (R222). -/
def Instr.addHlReg16 (rr : Reg16) : Instr :=
  match rr with
  | .bc => .addHlBc
  | .de => .addHlDe
  | .hl => .addHlHl
  | .sp => .addHlSp

/-- `PUSH qq` (R164). -/
def Instr.push (qq : Pair) : Instr :=
  match qq with
  | .af => .pushAf
  | .bc => .pushBc
  | .de => .pushDe
  | .hl => .pushHl

/-- `POP qq` (R165, R166). -/
def Instr.pop (qq : Pair) : Instr :=
  match qq with
  | .af => .popAf
  | .bc => .popBc
  | .de => .popDe
  | .hl => .popHl

/-- `JP cc,nn` (R266). -/
def Instr.jpCond (cc : Cond) (nn : Addr) : Instr :=
  match cc with
  | .nz => .jpNzNn nn
  | .z => .jpZNn nn
  | .nc => .jpNcNn nn
  | .c => .jpCNn nn

/-- `JR cc,e` (R269). -/
def Instr.jrCond (cc : Cond) (e : Byte) : Instr :=
  match cc with
  | .nz => .jrNzE e
  | .z => .jrZE e
  | .nc => .jrNcE e
  | .c => .jrCE e

/-- `CALL cc,nn` (R271). -/
def Instr.callCond (cc : Cond) (nn : Addr) : Instr :=
  match cc with
  | .nz => .callNzNn nn
  | .z => .callZNn nn
  | .nc => .callNcNn nn
  | .c => .callCNn nn

/-- `RET cc` (R273). -/
def Instr.retCond (cc : Cond) : Instr :=
  match cc with
  | .nz => .retNz
  | .z => .retZ
  | .nc => .retNc
  | .c => .retC

/-- `RST t` with `t = y * 8` (R275, 30_encoding.md R89). -/
def Instr.rst (y : Fin 8) : Instr :=
  match y.val with
  | 0 => .rst00
  | 1 => .rst08
  | 2 => .rst10
  | 3 => .rst18
  | 4 => .rst20
  | 5 => .rst28
  | 6 => .rst30
  | _ => .rst38

/-- The extended rotates and shifts of a register (R235 to R249, odd rules). -/
def Instr.rotReg (op : RotOp) (r : Reg8) : Instr :=
  match op, r with
  | .rlc, .a => .rlcA
  | .rlc, .b => .rlcB
  | .rlc, .c => .rlcC
  | .rlc, .d => .rlcD
  | .rlc, .e => .rlcE
  | .rlc, .h => .rlcH
  | .rlc, .l => .rlcL
  | .rrc, .a => .rrcA
  | .rrc, .b => .rrcB
  | .rrc, .c => .rrcC
  | .rrc, .d => .rrcD
  | .rrc, .e => .rrcE
  | .rrc, .h => .rrcH
  | .rrc, .l => .rrcL
  | .rl, .a => .rlA
  | .rl, .b => .rlB
  | .rl, .c => .rlC
  | .rl, .d => .rlD
  | .rl, .e => .rlE
  | .rl, .h => .rlH
  | .rl, .l => .rlL
  | .rr, .a => .rrA
  | .rr, .b => .rrB
  | .rr, .c => .rrC
  | .rr, .d => .rrD
  | .rr, .e => .rrE
  | .rr, .h => .rrH
  | .rr, .l => .rrL
  | .sla, .a => .slaA
  | .sla, .b => .slaB
  | .sla, .c => .slaC
  | .sla, .d => .slaD
  | .sla, .e => .slaE
  | .sla, .h => .slaH
  | .sla, .l => .slaL
  | .sra, .a => .sraA
  | .sra, .b => .sraB
  | .sra, .c => .sraC
  | .sra, .d => .sraD
  | .sra, .e => .sraE
  | .sra, .h => .sraH
  | .sra, .l => .sraL
  | .swap, .a => .swapA
  | .swap, .b => .swapB
  | .swap, .c => .swapC
  | .swap, .d => .swapD
  | .swap, .e => .swapE
  | .swap, .h => .swapH
  | .swap, .l => .swapL
  | .srl, .a => .srlA
  | .srl, .b => .srlB
  | .srl, .c => .srlC
  | .srl, .d => .srlD
  | .srl, .e => .srlE
  | .srl, .h => .srlH
  | .srl, .l => .srlL

/-- The extended rotates and shifts of the byte at HL (R236 to R250, even rules). -/
def Instr.rotAtHl (op : RotOp) : Instr :=
  match op with
  | .rlc => .rlcAtHl
  | .rrc => .rrcAtHl
  | .rl => .rlAtHl
  | .rr => .rrAtHl
  | .sla => .slaAtHl
  | .sra => .sraAtHl
  | .swap => .swapAtHl
  | .srl => .srlAtHl

/-- `BIT b,r` (R251). -/
def Instr.bitReg (b : Fin 8) (r : Reg8) : Instr :=
  match b.val, r with
  | 0, .a => .bit0A
  | 0, .b => .bit0B
  | 0, .c => .bit0C
  | 0, .d => .bit0D
  | 0, .e => .bit0E
  | 0, .h => .bit0H
  | 0, .l => .bit0L
  | 1, .a => .bit1A
  | 1, .b => .bit1B
  | 1, .c => .bit1C
  | 1, .d => .bit1D
  | 1, .e => .bit1E
  | 1, .h => .bit1H
  | 1, .l => .bit1L
  | 2, .a => .bit2A
  | 2, .b => .bit2B
  | 2, .c => .bit2C
  | 2, .d => .bit2D
  | 2, .e => .bit2E
  | 2, .h => .bit2H
  | 2, .l => .bit2L
  | 3, .a => .bit3A
  | 3, .b => .bit3B
  | 3, .c => .bit3C
  | 3, .d => .bit3D
  | 3, .e => .bit3E
  | 3, .h => .bit3H
  | 3, .l => .bit3L
  | 4, .a => .bit4A
  | 4, .b => .bit4B
  | 4, .c => .bit4C
  | 4, .d => .bit4D
  | 4, .e => .bit4E
  | 4, .h => .bit4H
  | 4, .l => .bit4L
  | 5, .a => .bit5A
  | 5, .b => .bit5B
  | 5, .c => .bit5C
  | 5, .d => .bit5D
  | 5, .e => .bit5E
  | 5, .h => .bit5H
  | 5, .l => .bit5L
  | 6, .a => .bit6A
  | 6, .b => .bit6B
  | 6, .c => .bit6C
  | 6, .d => .bit6D
  | 6, .e => .bit6E
  | 6, .h => .bit6H
  | 6, .l => .bit6L
  | _, .a => .bit7A
  | _, .b => .bit7B
  | _, .c => .bit7C
  | _, .d => .bit7D
  | _, .e => .bit7E
  | _, .h => .bit7H
  | _, .l => .bit7L

/-- `BIT b,(HL)` (R252). -/
def Instr.bitAtHl (b : Fin 8) : Instr :=
  match b.val with
  | 0 => .bit0AtHl
  | 1 => .bit1AtHl
  | 2 => .bit2AtHl
  | 3 => .bit3AtHl
  | 4 => .bit4AtHl
  | 5 => .bit5AtHl
  | 6 => .bit6AtHl
  | _ => .bit7AtHl

/-- `RES b,r` (R253). -/
def Instr.resReg (b : Fin 8) (r : Reg8) : Instr :=
  match b.val, r with
  | 0, .a => .res0A
  | 0, .b => .res0B
  | 0, .c => .res0C
  | 0, .d => .res0D
  | 0, .e => .res0E
  | 0, .h => .res0H
  | 0, .l => .res0L
  | 1, .a => .res1A
  | 1, .b => .res1B
  | 1, .c => .res1C
  | 1, .d => .res1D
  | 1, .e => .res1E
  | 1, .h => .res1H
  | 1, .l => .res1L
  | 2, .a => .res2A
  | 2, .b => .res2B
  | 2, .c => .res2C
  | 2, .d => .res2D
  | 2, .e => .res2E
  | 2, .h => .res2H
  | 2, .l => .res2L
  | 3, .a => .res3A
  | 3, .b => .res3B
  | 3, .c => .res3C
  | 3, .d => .res3D
  | 3, .e => .res3E
  | 3, .h => .res3H
  | 3, .l => .res3L
  | 4, .a => .res4A
  | 4, .b => .res4B
  | 4, .c => .res4C
  | 4, .d => .res4D
  | 4, .e => .res4E
  | 4, .h => .res4H
  | 4, .l => .res4L
  | 5, .a => .res5A
  | 5, .b => .res5B
  | 5, .c => .res5C
  | 5, .d => .res5D
  | 5, .e => .res5E
  | 5, .h => .res5H
  | 5, .l => .res5L
  | 6, .a => .res6A
  | 6, .b => .res6B
  | 6, .c => .res6C
  | 6, .d => .res6D
  | 6, .e => .res6E
  | 6, .h => .res6H
  | 6, .l => .res6L
  | _, .a => .res7A
  | _, .b => .res7B
  | _, .c => .res7C
  | _, .d => .res7D
  | _, .e => .res7E
  | _, .h => .res7H
  | _, .l => .res7L

/-- `RES b,(HL)` (R254). -/
def Instr.resAtHl (b : Fin 8) : Instr :=
  match b.val with
  | 0 => .res0AtHl
  | 1 => .res1AtHl
  | 2 => .res2AtHl
  | 3 => .res3AtHl
  | 4 => .res4AtHl
  | 5 => .res5AtHl
  | 6 => .res6AtHl
  | _ => .res7AtHl

/-- `SET b,r` (R255). -/
def Instr.setReg (b : Fin 8) (r : Reg8) : Instr :=
  match b.val, r with
  | 0, .a => .set0A
  | 0, .b => .set0B
  | 0, .c => .set0C
  | 0, .d => .set0D
  | 0, .e => .set0E
  | 0, .h => .set0H
  | 0, .l => .set0L
  | 1, .a => .set1A
  | 1, .b => .set1B
  | 1, .c => .set1C
  | 1, .d => .set1D
  | 1, .e => .set1E
  | 1, .h => .set1H
  | 1, .l => .set1L
  | 2, .a => .set2A
  | 2, .b => .set2B
  | 2, .c => .set2C
  | 2, .d => .set2D
  | 2, .e => .set2E
  | 2, .h => .set2H
  | 2, .l => .set2L
  | 3, .a => .set3A
  | 3, .b => .set3B
  | 3, .c => .set3C
  | 3, .d => .set3D
  | 3, .e => .set3E
  | 3, .h => .set3H
  | 3, .l => .set3L
  | 4, .a => .set4A
  | 4, .b => .set4B
  | 4, .c => .set4C
  | 4, .d => .set4D
  | 4, .e => .set4E
  | 4, .h => .set4H
  | 4, .l => .set4L
  | 5, .a => .set5A
  | 5, .b => .set5B
  | 5, .c => .set5C
  | 5, .d => .set5D
  | 5, .e => .set5E
  | 5, .h => .set5H
  | 5, .l => .set5L
  | 6, .a => .set6A
  | 6, .b => .set6B
  | 6, .c => .set6C
  | 6, .d => .set6D
  | 6, .e => .set6E
  | 6, .h => .set6H
  | 6, .l => .set6L
  | _, .a => .set7A
  | _, .b => .set7B
  | _, .c => .set7C
  | _, .d => .set7D
  | _, .e => .set7E
  | _, .h => .set7H
  | _, .l => .set7L

/-- `SET b,(HL)` (R256). -/
def Instr.setAtHl (b : Fin 8) : Instr :=
  match b.val with
  | 0 => .set0AtHl
  | 1 => .set1AtHl
  | 2 => .set2AtHl
  | 3 => .set3AtHl
  | 4 => .set4AtHl
  | 5 => .set5AtHl
  | 6 => .set6AtHl
  | _ => .set7AtHl

/-- The eleven primary bytes with no instruction (R92, R285). -/
def Instr.illegals : List (Byte × Instr) :=
  [(0xD3, .illegalD3), (0xDB, .illegalDB), (0xDD, .illegalDD), (0xE3, .illegalE3), (0xE4, .illegalE4), (0xEB, .illegalEB), (0xEC, .illegalEC), (0xED, .illegalED), (0xF4, .illegalF4), (0xFC, .illegalFC), (0xFD, .illegalFD)]

/-! ### Fields and operand tables -/

/-- `x = op[7:6]` (R82). -/
def opX (op : Byte) : Nat := op.toNat / 64
/-- `y = op[5:3]` (R82). -/
def opY (op : Byte) : Nat := op.toNat / 8 % 8
/-- `z = op[2:0]` (R82). -/
def opZ (op : Byte) : Nat := op.toNat % 8
/-- `p = op[5:4]` (R82). -/
def opP (op : Byte) : Nat := op.toNat / 16 % 4
/-- `q = op[3]` (R82). -/
def opQ (op : Byte) : Nat := op.toNat / 8 % 2
/-- `y` as a bit number or restart index. -/
def opYFin (op : Byte) : Fin 8 := Fin.ofNat 8 (op.toNat / 8)

/-- The table `r8` (R83); `none` is index 6, the byte at HL. -/
def r8Table : Nat → Option Reg8
  | 0 => some .b
  | 1 => some .c
  | 2 => some .d
  | 3 => some .e
  | 4 => some .h
  | 5 => some .l
  | 6 => none
  | _ => some .a

/-- The table `rp` (R84). -/
def rpTable : Nat → Reg16
  | 0 => .bc
  | 1 => .de
  | 2 => .hl
  | _ => .sp

/-- The table `rp2` (R84). -/
def rp2Table : Nat → Pair
  | 0 => .bc
  | 1 => .de
  | 2 => .hl
  | _ => .af

/-- The table `cc` (R85). -/
def ccTable : Nat → Cond
  | 0 => .nz
  | 1 => .z
  | 2 => .nc
  | _ => .c

/-- The table `alu` (R86). -/
def aluTable : Nat → AluOp
  | 0 => .add
  | 1 => .adc
  | 2 => .sub
  | 3 => .sbc
  | 4 => .and
  | 5 => .xor
  | 6 => .or
  | _ => .cp

/-- The table `rot` (R87). -/
def rotTable : Nat → RotOp
  | 0 => .rlc
  | 1 => .rrc
  | 2 => .rl
  | 3 => .rr
  | 4 => .sla
  | 5 => .sra
  | 6 => .swap
  | _ => .srl

/-- A register's index in `r8` (R83). -/
def regIndex : Reg8 → Byte
  | .b => 0
  | .c => 1
  | .d => 2
  | .e => 3
  | .h => 4
  | .l => 5
  | .a => 7

/-- A 16-bit operand's index in `rp` (R84). -/
def reg16Index : Reg16 → Byte
  | .bc => 0
  | .de => 1
  | .hl => 2
  | .sp => 3

/-- A pair's index in `rp2` (R84). -/
def pairIndex : Pair → Byte
  | .bc => 0
  | .de => 1
  | .hl => 2
  | .af => 3

/-- A condition's index in `cc` (R85). -/
def condIndex : Cond → Byte
  | .nz => 0
  | .z => 1
  | .nc => 2
  | .c => 3

/-- An operation's index in `alu` (R86). -/
def aluIndex : AluOp → Byte
  | .add => 0
  | .adc => 1
  | .sub => 2
  | .sbc => 3
  | .and => 4
  | .xor => 5
  | .or => 6
  | .cp => 7

/-- An operation's index in `rot` (R87). -/
def rotIndex : RotOp → Byte
  | .rlc => 0
  | .rrc => 1
  | .rl => 2
  | .rr => 3
  | .sla => 4
  | .sra => 5
  | .swap => 6
  | .srl => 7

/-- The bit number, or the restart number, in the field `y` (R89, R91). -/
def bitIndex (b : Fin 8) : Byte := BitVec.ofNat 8 b.val

/-! ### Decoding -/

/-- What a first byte selects: an instruction, or one that still needs its immediate, or the extended table (R81). -/
inductive OpcodeShape where
  | plain (i : Instr)
  | imm8 (f : Byte → Instr)
  | imm16 (f : Addr → Instr)
  | extended

/-- The extended table (R91). -/
def extendedTable (op2 : Byte) : Instr :=
  match opX op2, r8Table (opZ op2) with
  | 0, some r => .rotReg (rotTable (opY op2)) r
  | 0, none => .rotAtHl (rotTable (opY op2))
  | 1, some r => .bitReg (opYFin op2) r
  | 1, none => .bitAtHl (opYFin op2)
  | 2, some r => .resReg (opYFin op2) r
  | 2, none => .resAtHl (opYFin op2)
  | _, some r => .setReg (opYFin op2) r
  | _, none => .setAtHl (opYFin op2)

/-- The primary table, `x = 0` (R90). -/
def primaryBlock0 (op : Byte) : OpcodeShape :=
  match opZ op with
  | 0 =>
    match opY op with
    | 0 => .plain .nop
    | 1 => .imm16 .ldAtNnSp
    | 2 => .plain .stop
    | 3 => .imm8 .jrE
    | y => .imm8 (.jrCond (ccTable (y - 4)))
  | 1 =>
    match opQ op with
    | 0 => .imm16 (.ldReg16Imm (rpTable (opP op)))
    | _ => .plain (.addHlReg16 (rpTable (opP op)))
  | 2 =>
    match opQ op, opP op with
    | 0, 0 => .plain .ldAtBcA
    | 0, 1 => .plain .ldAtDeA
    | 0, 2 => .plain .ldAtHlIncA
    | 0, _ => .plain .ldAtHlDecA
    | _, 0 => .plain .ldAAtBc
    | _, 1 => .plain .ldAAtDe
    | _, 2 => .plain .ldAAtHlInc
    | _, _ => .plain .ldAAtHlDec
  | 3 =>
    match opQ op with
    | 0 => .plain (.incReg16 (rpTable (opP op)))
    | _ => .plain (.decReg16 (rpTable (opP op)))
  | 4 =>
    match r8Table (opY op) with
    | some r => .plain (.incReg r)
    | none => .plain .incAtHl
  | 5 =>
    match r8Table (opY op) with
    | some r => .plain (.decReg r)
    | none => .plain .decAtHl
  | 6 =>
    match r8Table (opY op) with
    | some r => .imm8 (.ldRegImm r)
    | none => .imm8 .ldAtHlN
  | _ =>
    match opY op with
    | 0 => .plain .rlca
    | 1 => .plain .rrca
    | 2 => .plain .rla
    | 3 => .plain .rra
    | 4 => .plain .daa
    | 5 => .plain .cpl
    | 6 => .plain .scf
    | _ => .plain .ccf

/-- The primary table, `x = 1` (R90). -/
def primaryBlock1 (op : Byte) : OpcodeShape :=
  match r8Table (opY op), r8Table (opZ op) with
  | some dst, some src => .plain (.ldRegReg dst src)
  | some dst, none => .plain (.ldRegAtHl dst)
  | none, some src => .plain (.ldAtHlReg src)
  | none, none => .plain .halt

/-- The primary table, `x = 2` (R90). -/
def primaryBlock2 (op : Byte) : OpcodeShape :=
  match r8Table (opZ op) with
  | some r => .plain (.aluReg (aluTable (opY op)) r)
  | none => .plain (.aluAtHl (aluTable (opY op)))

/-- The primary table, `x = 3` (R90). -/
def primaryBlock3 (op : Byte) : OpcodeShape :=
  match opZ op with
  | 0 =>
    match opY op with
    | 4 => .imm8 .ldhAtNA
    | 5 => .imm8 .addSpE
    | 6 => .imm8 .ldhAAtN
    | 7 => .imm8 .ldHlSpE
    | y => .plain (.retCond (ccTable y))
  | 1 =>
    match opQ op, opP op with
    | 0, p => .plain (.pop (rp2Table p))
    | _, 0 => .plain .ret
    | _, 1 => .plain .reti
    | _, 2 => .plain .jpHl
    | _, _ => .plain .ldSpHl
  | 2 =>
    match opY op with
    | 4 => .plain .ldAtCA
    | 5 => .imm16 .ldAtNnA
    | 6 => .plain .ldAAtC
    | 7 => .imm16 .ldAAtNn
    | y => .imm16 (.jpCond (ccTable y))
  | 3 =>
    match opY op with
    | 0 => .imm16 .jpNn
    | 1 => .extended
    | 2 => .plain .illegalD3
    | 3 => .plain .illegalDB
    | 4 => .plain .illegalE3
    | 5 => .plain .illegalEB
    | 6 => .plain .di
    | _ => .plain .ei
  | 4 =>
    match opY op with
    | 4 => .plain .illegalE4
    | 5 => .plain .illegalEC
    | 6 => .plain .illegalF4
    | 7 => .plain .illegalFC
    | y => .imm16 (.callCond (ccTable y))
  | 5 =>
    match opQ op, opP op with
    | 0, p => .plain (.push (rp2Table p))
    | _, 0 => .imm16 .callNn
    | _, 1 => .plain .illegalDD
    | _, 2 => .plain .illegalED
    | _, _ => .plain .illegalFD
  | 6 => .imm8 (.aluImm (aluTable (opY op)))
  | _ => .plain (.rst (opYFin op))

/-- The primary table (R90). -/
def primaryTable (op : Byte) : OpcodeShape :=
  match opX op with
  | 0 => primaryBlock0 op
  | 1 => primaryBlock1 op
  | 2 => primaryBlock2 op
  | _ => primaryBlock3 op

/-- The length a first byte decides (R80, R81). -/
def opcodeLength (op : Byte) : Nat :=
  match primaryTable op with
  | .plain _ => 1
  | .imm8 _ => 2
  | .imm16 _ => 3
  | .extended => 2

/-- Why a list of bytes is no instruction. -/
inductive DecodeReject where
  /-- There is no first byte. -/
  | noBytes
  /-- The instruction is `length` bytes long and fewer are there. -/
  | truncated (length : Nat)
  deriving DecidableEq, Repr

/-- What decoding answers: an instruction with the bytes after it, or a rejection by name. -/
inductive Decoded where
  | instr (i : Instr) (rest : List Byte)
  | reject (why : DecodeReject)
  deriving DecidableEq, Repr

/-- `nn = byte 2 ++ byte 1` (R88): the byte at the lower address is the low half. -/
def immediateWord (lo hi : Byte) : Addr := hi ++ lo

/-- The decoder (R96). Every first byte has a row, so a rejection only ever names missing bytes. The byte 0xCB with
nothing after it is the prefix row (R93). -/
def decode : List Byte → Decoded
  | [] => .reject .noBytes
  | op :: rest =>
    match primaryTable op, rest with
    | .plain i, rest => .instr i rest
    | .imm8 f, n :: rest => .instr (f n) rest
    | .imm8 _, [] => .reject (.truncated 2)
    | .imm16 f, lo :: hi :: rest => .instr (f (immediateWord lo hi)) rest
    | .imm16 _, _ => .reject (.truncated 3)
    | .extended, op2 :: rest => .instr (extendedTable op2) rest
    | .extended, [] => .instr .prefixCb []

/-! ### Encoding -/

/-- The two bytes of an `nn` immediate, low byte first (R88). -/
def immediateBytes (nn : Addr) : List Byte := [nn.extractLsb' 0 8, nn.extractLsb' 8 8]

/-- The bytes of an instruction (R81, R90, R91). -/
def encode : Instr → List Byte
  | .nop => [0x00]
  | .ldBcNn nn => 0x01 :: immediateBytes nn
  | .ldAtBcA => [0x02]
  | .incBc => [0x03]
  | .incB => [0x04]
  | .decB => [0x05]
  | .ldBN n => [0x06, n]
  | .rlca => [0x07]
  | .ldAtNnSp nn => 0x08 :: immediateBytes nn
  | .addHlBc => [0x09]
  | .ldAAtBc => [0x0A]
  | .decBc => [0x0B]
  | .incC => [0x0C]
  | .decC => [0x0D]
  | .ldCN n => [0x0E, n]
  | .rrca => [0x0F]
  | .stop => [0x10]
  | .ldDeNn nn => 0x11 :: immediateBytes nn
  | .ldAtDeA => [0x12]
  | .incDe => [0x13]
  | .incD => [0x14]
  | .decD => [0x15]
  | .ldDN n => [0x16, n]
  | .rla => [0x17]
  | .jrE e => [0x18, e]
  | .addHlDe => [0x19]
  | .ldAAtDe => [0x1A]
  | .decDe => [0x1B]
  | .incE => [0x1C]
  | .decE => [0x1D]
  | .ldEN n => [0x1E, n]
  | .rra => [0x1F]
  | .jrNzE e => [0x20, e]
  | .ldHlNn nn => 0x21 :: immediateBytes nn
  | .ldAtHlIncA => [0x22]
  | .incHl => [0x23]
  | .incH => [0x24]
  | .decH => [0x25]
  | .ldHN n => [0x26, n]
  | .daa => [0x27]
  | .jrZE e => [0x28, e]
  | .addHlHl => [0x29]
  | .ldAAtHlInc => [0x2A]
  | .decHl => [0x2B]
  | .incL => [0x2C]
  | .decL => [0x2D]
  | .ldLN n => [0x2E, n]
  | .cpl => [0x2F]
  | .jrNcE e => [0x30, e]
  | .ldSpNn nn => 0x31 :: immediateBytes nn
  | .ldAtHlDecA => [0x32]
  | .incSp => [0x33]
  | .incAtHl => [0x34]
  | .decAtHl => [0x35]
  | .ldAtHlN n => [0x36, n]
  | .scf => [0x37]
  | .jrCE e => [0x38, e]
  | .addHlSp => [0x39]
  | .ldAAtHlDec => [0x3A]
  | .decSp => [0x3B]
  | .incA => [0x3C]
  | .decA => [0x3D]
  | .ldAN n => [0x3E, n]
  | .ccf => [0x3F]
  | .ldBB => [0x40]
  | .ldBC => [0x41]
  | .ldBD => [0x42]
  | .ldBE => [0x43]
  | .ldBH => [0x44]
  | .ldBL => [0x45]
  | .ldBAtHl => [0x46]
  | .ldBA => [0x47]
  | .ldCB => [0x48]
  | .ldCC => [0x49]
  | .ldCD => [0x4A]
  | .ldCE => [0x4B]
  | .ldCH => [0x4C]
  | .ldCL => [0x4D]
  | .ldCAtHl => [0x4E]
  | .ldCA => [0x4F]
  | .ldDB => [0x50]
  | .ldDC => [0x51]
  | .ldDD => [0x52]
  | .ldDE => [0x53]
  | .ldDH => [0x54]
  | .ldDL => [0x55]
  | .ldDAtHl => [0x56]
  | .ldDA => [0x57]
  | .ldEB => [0x58]
  | .ldEC => [0x59]
  | .ldED => [0x5A]
  | .ldEE => [0x5B]
  | .ldEH => [0x5C]
  | .ldEL => [0x5D]
  | .ldEAtHl => [0x5E]
  | .ldEA => [0x5F]
  | .ldHB => [0x60]
  | .ldHC => [0x61]
  | .ldHD => [0x62]
  | .ldHE => [0x63]
  | .ldHH => [0x64]
  | .ldHL => [0x65]
  | .ldHAtHl => [0x66]
  | .ldHA => [0x67]
  | .ldLB => [0x68]
  | .ldLC => [0x69]
  | .ldLD => [0x6A]
  | .ldLE => [0x6B]
  | .ldLH => [0x6C]
  | .ldLL => [0x6D]
  | .ldLAtHl => [0x6E]
  | .ldLA => [0x6F]
  | .ldAtHlB => [0x70]
  | .ldAtHlC => [0x71]
  | .ldAtHlD => [0x72]
  | .ldAtHlE => [0x73]
  | .ldAtHlH => [0x74]
  | .ldAtHlL => [0x75]
  | .halt => [0x76]
  | .ldAtHlA => [0x77]
  | .ldAB => [0x78]
  | .ldAC => [0x79]
  | .ldAD => [0x7A]
  | .ldAE => [0x7B]
  | .ldAH => [0x7C]
  | .ldAL => [0x7D]
  | .ldAAtHl => [0x7E]
  | .ldAA => [0x7F]
  | .addAB => [0x80]
  | .addAC => [0x81]
  | .addAD => [0x82]
  | .addAE => [0x83]
  | .addAH => [0x84]
  | .addAL => [0x85]
  | .addAAtHl => [0x86]
  | .addAA => [0x87]
  | .adcAB => [0x88]
  | .adcAC => [0x89]
  | .adcAD => [0x8A]
  | .adcAE => [0x8B]
  | .adcAH => [0x8C]
  | .adcAL => [0x8D]
  | .adcAAtHl => [0x8E]
  | .adcAA => [0x8F]
  | .subB => [0x90]
  | .subC => [0x91]
  | .subD => [0x92]
  | .subE => [0x93]
  | .subH => [0x94]
  | .subL => [0x95]
  | .subAtHl => [0x96]
  | .subA => [0x97]
  | .sbcAB => [0x98]
  | .sbcAC => [0x99]
  | .sbcAD => [0x9A]
  | .sbcAE => [0x9B]
  | .sbcAH => [0x9C]
  | .sbcAL => [0x9D]
  | .sbcAAtHl => [0x9E]
  | .sbcAA => [0x9F]
  | .andB => [0xA0]
  | .andC => [0xA1]
  | .andD => [0xA2]
  | .andE => [0xA3]
  | .andH => [0xA4]
  | .andL => [0xA5]
  | .andAtHl => [0xA6]
  | .andA => [0xA7]
  | .xorB => [0xA8]
  | .xorC => [0xA9]
  | .xorD => [0xAA]
  | .xorE => [0xAB]
  | .xorH => [0xAC]
  | .xorL => [0xAD]
  | .xorAtHl => [0xAE]
  | .xorA => [0xAF]
  | .orB => [0xB0]
  | .orC => [0xB1]
  | .orD => [0xB2]
  | .orE => [0xB3]
  | .orH => [0xB4]
  | .orL => [0xB5]
  | .orAtHl => [0xB6]
  | .orA => [0xB7]
  | .cpB => [0xB8]
  | .cpC => [0xB9]
  | .cpD => [0xBA]
  | .cpE => [0xBB]
  | .cpH => [0xBC]
  | .cpL => [0xBD]
  | .cpAtHl => [0xBE]
  | .cpA => [0xBF]
  | .retNz => [0xC0]
  | .popBc => [0xC1]
  | .jpNzNn nn => 0xC2 :: immediateBytes nn
  | .jpNn nn => 0xC3 :: immediateBytes nn
  | .callNzNn nn => 0xC4 :: immediateBytes nn
  | .pushBc => [0xC5]
  | .addAN n => [0xC6, n]
  | .rst00 => [0xC7]
  | .retZ => [0xC8]
  | .ret => [0xC9]
  | .jpZNn nn => 0xCA :: immediateBytes nn
  | .prefixCb => [0xCB]
  | .callZNn nn => 0xCC :: immediateBytes nn
  | .callNn nn => 0xCD :: immediateBytes nn
  | .adcAN n => [0xCE, n]
  | .rst08 => [0xCF]
  | .retNc => [0xD0]
  | .popDe => [0xD1]
  | .jpNcNn nn => 0xD2 :: immediateBytes nn
  | .illegalD3 => [0xD3]
  | .callNcNn nn => 0xD4 :: immediateBytes nn
  | .pushDe => [0xD5]
  | .subN n => [0xD6, n]
  | .rst10 => [0xD7]
  | .retC => [0xD8]
  | .reti => [0xD9]
  | .jpCNn nn => 0xDA :: immediateBytes nn
  | .illegalDB => [0xDB]
  | .callCNn nn => 0xDC :: immediateBytes nn
  | .illegalDD => [0xDD]
  | .sbcAN n => [0xDE, n]
  | .rst18 => [0xDF]
  | .ldhAtNA n => [0xE0, n]
  | .popHl => [0xE1]
  | .ldAtCA => [0xE2]
  | .illegalE3 => [0xE3]
  | .illegalE4 => [0xE4]
  | .pushHl => [0xE5]
  | .andN n => [0xE6, n]
  | .rst20 => [0xE7]
  | .addSpE e => [0xE8, e]
  | .jpHl => [0xE9]
  | .ldAtNnA nn => 0xEA :: immediateBytes nn
  | .illegalEB => [0xEB]
  | .illegalEC => [0xEC]
  | .illegalED => [0xED]
  | .xorN n => [0xEE, n]
  | .rst28 => [0xEF]
  | .ldhAAtN n => [0xF0, n]
  | .popAf => [0xF1]
  | .ldAAtC => [0xF2]
  | .di => [0xF3]
  | .illegalF4 => [0xF4]
  | .pushAf => [0xF5]
  | .orN n => [0xF6, n]
  | .rst30 => [0xF7]
  | .ldHlSpE e => [0xF8, e]
  | .ldSpHl => [0xF9]
  | .ldAAtNn nn => 0xFA :: immediateBytes nn
  | .ei => [0xFB]
  | .illegalFC => [0xFC]
  | .illegalFD => [0xFD]
  | .cpN n => [0xFE, n]
  | .rst38 => [0xFF]
  | .rlcB => [0xCB, 0x00]
  | .rlcC => [0xCB, 0x01]
  | .rlcD => [0xCB, 0x02]
  | .rlcE => [0xCB, 0x03]
  | .rlcH => [0xCB, 0x04]
  | .rlcL => [0xCB, 0x05]
  | .rlcAtHl => [0xCB, 0x06]
  | .rlcA => [0xCB, 0x07]
  | .rrcB => [0xCB, 0x08]
  | .rrcC => [0xCB, 0x09]
  | .rrcD => [0xCB, 0x0A]
  | .rrcE => [0xCB, 0x0B]
  | .rrcH => [0xCB, 0x0C]
  | .rrcL => [0xCB, 0x0D]
  | .rrcAtHl => [0xCB, 0x0E]
  | .rrcA => [0xCB, 0x0F]
  | .rlB => [0xCB, 0x10]
  | .rlC => [0xCB, 0x11]
  | .rlD => [0xCB, 0x12]
  | .rlE => [0xCB, 0x13]
  | .rlH => [0xCB, 0x14]
  | .rlL => [0xCB, 0x15]
  | .rlAtHl => [0xCB, 0x16]
  | .rlA => [0xCB, 0x17]
  | .rrB => [0xCB, 0x18]
  | .rrC => [0xCB, 0x19]
  | .rrD => [0xCB, 0x1A]
  | .rrE => [0xCB, 0x1B]
  | .rrH => [0xCB, 0x1C]
  | .rrL => [0xCB, 0x1D]
  | .rrAtHl => [0xCB, 0x1E]
  | .rrA => [0xCB, 0x1F]
  | .slaB => [0xCB, 0x20]
  | .slaC => [0xCB, 0x21]
  | .slaD => [0xCB, 0x22]
  | .slaE => [0xCB, 0x23]
  | .slaH => [0xCB, 0x24]
  | .slaL => [0xCB, 0x25]
  | .slaAtHl => [0xCB, 0x26]
  | .slaA => [0xCB, 0x27]
  | .sraB => [0xCB, 0x28]
  | .sraC => [0xCB, 0x29]
  | .sraD => [0xCB, 0x2A]
  | .sraE => [0xCB, 0x2B]
  | .sraH => [0xCB, 0x2C]
  | .sraL => [0xCB, 0x2D]
  | .sraAtHl => [0xCB, 0x2E]
  | .sraA => [0xCB, 0x2F]
  | .swapB => [0xCB, 0x30]
  | .swapC => [0xCB, 0x31]
  | .swapD => [0xCB, 0x32]
  | .swapE => [0xCB, 0x33]
  | .swapH => [0xCB, 0x34]
  | .swapL => [0xCB, 0x35]
  | .swapAtHl => [0xCB, 0x36]
  | .swapA => [0xCB, 0x37]
  | .srlB => [0xCB, 0x38]
  | .srlC => [0xCB, 0x39]
  | .srlD => [0xCB, 0x3A]
  | .srlE => [0xCB, 0x3B]
  | .srlH => [0xCB, 0x3C]
  | .srlL => [0xCB, 0x3D]
  | .srlAtHl => [0xCB, 0x3E]
  | .srlA => [0xCB, 0x3F]
  | .bit0B => [0xCB, 0x40]
  | .bit0C => [0xCB, 0x41]
  | .bit0D => [0xCB, 0x42]
  | .bit0E => [0xCB, 0x43]
  | .bit0H => [0xCB, 0x44]
  | .bit0L => [0xCB, 0x45]
  | .bit0AtHl => [0xCB, 0x46]
  | .bit0A => [0xCB, 0x47]
  | .bit1B => [0xCB, 0x48]
  | .bit1C => [0xCB, 0x49]
  | .bit1D => [0xCB, 0x4A]
  | .bit1E => [0xCB, 0x4B]
  | .bit1H => [0xCB, 0x4C]
  | .bit1L => [0xCB, 0x4D]
  | .bit1AtHl => [0xCB, 0x4E]
  | .bit1A => [0xCB, 0x4F]
  | .bit2B => [0xCB, 0x50]
  | .bit2C => [0xCB, 0x51]
  | .bit2D => [0xCB, 0x52]
  | .bit2E => [0xCB, 0x53]
  | .bit2H => [0xCB, 0x54]
  | .bit2L => [0xCB, 0x55]
  | .bit2AtHl => [0xCB, 0x56]
  | .bit2A => [0xCB, 0x57]
  | .bit3B => [0xCB, 0x58]
  | .bit3C => [0xCB, 0x59]
  | .bit3D => [0xCB, 0x5A]
  | .bit3E => [0xCB, 0x5B]
  | .bit3H => [0xCB, 0x5C]
  | .bit3L => [0xCB, 0x5D]
  | .bit3AtHl => [0xCB, 0x5E]
  | .bit3A => [0xCB, 0x5F]
  | .bit4B => [0xCB, 0x60]
  | .bit4C => [0xCB, 0x61]
  | .bit4D => [0xCB, 0x62]
  | .bit4E => [0xCB, 0x63]
  | .bit4H => [0xCB, 0x64]
  | .bit4L => [0xCB, 0x65]
  | .bit4AtHl => [0xCB, 0x66]
  | .bit4A => [0xCB, 0x67]
  | .bit5B => [0xCB, 0x68]
  | .bit5C => [0xCB, 0x69]
  | .bit5D => [0xCB, 0x6A]
  | .bit5E => [0xCB, 0x6B]
  | .bit5H => [0xCB, 0x6C]
  | .bit5L => [0xCB, 0x6D]
  | .bit5AtHl => [0xCB, 0x6E]
  | .bit5A => [0xCB, 0x6F]
  | .bit6B => [0xCB, 0x70]
  | .bit6C => [0xCB, 0x71]
  | .bit6D => [0xCB, 0x72]
  | .bit6E => [0xCB, 0x73]
  | .bit6H => [0xCB, 0x74]
  | .bit6L => [0xCB, 0x75]
  | .bit6AtHl => [0xCB, 0x76]
  | .bit6A => [0xCB, 0x77]
  | .bit7B => [0xCB, 0x78]
  | .bit7C => [0xCB, 0x79]
  | .bit7D => [0xCB, 0x7A]
  | .bit7E => [0xCB, 0x7B]
  | .bit7H => [0xCB, 0x7C]
  | .bit7L => [0xCB, 0x7D]
  | .bit7AtHl => [0xCB, 0x7E]
  | .bit7A => [0xCB, 0x7F]
  | .res0B => [0xCB, 0x80]
  | .res0C => [0xCB, 0x81]
  | .res0D => [0xCB, 0x82]
  | .res0E => [0xCB, 0x83]
  | .res0H => [0xCB, 0x84]
  | .res0L => [0xCB, 0x85]
  | .res0AtHl => [0xCB, 0x86]
  | .res0A => [0xCB, 0x87]
  | .res1B => [0xCB, 0x88]
  | .res1C => [0xCB, 0x89]
  | .res1D => [0xCB, 0x8A]
  | .res1E => [0xCB, 0x8B]
  | .res1H => [0xCB, 0x8C]
  | .res1L => [0xCB, 0x8D]
  | .res1AtHl => [0xCB, 0x8E]
  | .res1A => [0xCB, 0x8F]
  | .res2B => [0xCB, 0x90]
  | .res2C => [0xCB, 0x91]
  | .res2D => [0xCB, 0x92]
  | .res2E => [0xCB, 0x93]
  | .res2H => [0xCB, 0x94]
  | .res2L => [0xCB, 0x95]
  | .res2AtHl => [0xCB, 0x96]
  | .res2A => [0xCB, 0x97]
  | .res3B => [0xCB, 0x98]
  | .res3C => [0xCB, 0x99]
  | .res3D => [0xCB, 0x9A]
  | .res3E => [0xCB, 0x9B]
  | .res3H => [0xCB, 0x9C]
  | .res3L => [0xCB, 0x9D]
  | .res3AtHl => [0xCB, 0x9E]
  | .res3A => [0xCB, 0x9F]
  | .res4B => [0xCB, 0xA0]
  | .res4C => [0xCB, 0xA1]
  | .res4D => [0xCB, 0xA2]
  | .res4E => [0xCB, 0xA3]
  | .res4H => [0xCB, 0xA4]
  | .res4L => [0xCB, 0xA5]
  | .res4AtHl => [0xCB, 0xA6]
  | .res4A => [0xCB, 0xA7]
  | .res5B => [0xCB, 0xA8]
  | .res5C => [0xCB, 0xA9]
  | .res5D => [0xCB, 0xAA]
  | .res5E => [0xCB, 0xAB]
  | .res5H => [0xCB, 0xAC]
  | .res5L => [0xCB, 0xAD]
  | .res5AtHl => [0xCB, 0xAE]
  | .res5A => [0xCB, 0xAF]
  | .res6B => [0xCB, 0xB0]
  | .res6C => [0xCB, 0xB1]
  | .res6D => [0xCB, 0xB2]
  | .res6E => [0xCB, 0xB3]
  | .res6H => [0xCB, 0xB4]
  | .res6L => [0xCB, 0xB5]
  | .res6AtHl => [0xCB, 0xB6]
  | .res6A => [0xCB, 0xB7]
  | .res7B => [0xCB, 0xB8]
  | .res7C => [0xCB, 0xB9]
  | .res7D => [0xCB, 0xBA]
  | .res7E => [0xCB, 0xBB]
  | .res7H => [0xCB, 0xBC]
  | .res7L => [0xCB, 0xBD]
  | .res7AtHl => [0xCB, 0xBE]
  | .res7A => [0xCB, 0xBF]
  | .set0B => [0xCB, 0xC0]
  | .set0C => [0xCB, 0xC1]
  | .set0D => [0xCB, 0xC2]
  | .set0E => [0xCB, 0xC3]
  | .set0H => [0xCB, 0xC4]
  | .set0L => [0xCB, 0xC5]
  | .set0AtHl => [0xCB, 0xC6]
  | .set0A => [0xCB, 0xC7]
  | .set1B => [0xCB, 0xC8]
  | .set1C => [0xCB, 0xC9]
  | .set1D => [0xCB, 0xCA]
  | .set1E => [0xCB, 0xCB]
  | .set1H => [0xCB, 0xCC]
  | .set1L => [0xCB, 0xCD]
  | .set1AtHl => [0xCB, 0xCE]
  | .set1A => [0xCB, 0xCF]
  | .set2B => [0xCB, 0xD0]
  | .set2C => [0xCB, 0xD1]
  | .set2D => [0xCB, 0xD2]
  | .set2E => [0xCB, 0xD3]
  | .set2H => [0xCB, 0xD4]
  | .set2L => [0xCB, 0xD5]
  | .set2AtHl => [0xCB, 0xD6]
  | .set2A => [0xCB, 0xD7]
  | .set3B => [0xCB, 0xD8]
  | .set3C => [0xCB, 0xD9]
  | .set3D => [0xCB, 0xDA]
  | .set3E => [0xCB, 0xDB]
  | .set3H => [0xCB, 0xDC]
  | .set3L => [0xCB, 0xDD]
  | .set3AtHl => [0xCB, 0xDE]
  | .set3A => [0xCB, 0xDF]
  | .set4B => [0xCB, 0xE0]
  | .set4C => [0xCB, 0xE1]
  | .set4D => [0xCB, 0xE2]
  | .set4E => [0xCB, 0xE3]
  | .set4H => [0xCB, 0xE4]
  | .set4L => [0xCB, 0xE5]
  | .set4AtHl => [0xCB, 0xE6]
  | .set4A => [0xCB, 0xE7]
  | .set5B => [0xCB, 0xE8]
  | .set5C => [0xCB, 0xE9]
  | .set5D => [0xCB, 0xEA]
  | .set5E => [0xCB, 0xEB]
  | .set5H => [0xCB, 0xEC]
  | .set5L => [0xCB, 0xED]
  | .set5AtHl => [0xCB, 0xEE]
  | .set5A => [0xCB, 0xEF]
  | .set6B => [0xCB, 0xF0]
  | .set6C => [0xCB, 0xF1]
  | .set6D => [0xCB, 0xF2]
  | .set6E => [0xCB, 0xF3]
  | .set6H => [0xCB, 0xF4]
  | .set6L => [0xCB, 0xF5]
  | .set6AtHl => [0xCB, 0xF6]
  | .set6A => [0xCB, 0xF7]
  | .set7B => [0xCB, 0xF8]
  | .set7C => [0xCB, 0xF9]
  | .set7D => [0xCB, 0xFA]
  | .set7E => [0xCB, 0xFB]
  | .set7H => [0xCB, 0xFC]
  | .set7L => [0xCB, 0xFD]
  | .set7AtHl => [0xCB, 0xFE]
  | .set7A => [0xCB, 0xFF]

/-! ### Words numbered as the opcode table numbers them -/

/-- Byte `k` of a number whose first byte is its least significant one. -/
def wordByte (w k : Nat) : Byte := BitVec.ofNat 8 (w / 256 ^ k)

/-- The bytes, first one first, of the `nbits` bits of a table row. A row of the extended table has its first byte in
the high half of its number (R96: "matched against byte 0 (high half) and byte 1 (low half) taken together"); every
other row has it in the low byte (log 7). -/
def tableBytes (nbits w : Nat) : List Byte :=
  match nbits / 8 with
  | 0 => []
  | 1 => [wordByte w 0]
  | 2 => if wordByte w 1 = 0xCB then [wordByte w 1, wordByte w 0] else [wordByte w 0, wordByte w 1]
  | _ => [wordByte w 0, wordByte w 1, wordByte w 2]

/-- The instruction the decoder reads from a table row's bits; bytes the row gives no bits are zero (log 7, log 8). -/
def decodeTableWord (nbits w : Nat) : Option Instr :=
  match decode (tableBytes nbits w) with
  | .instr i _ => some i
  | .reject _ =>
    match decode (tableBytes nbits w ++ [0, 0]) with
    | .instr i _ => some i
    | .reject _ => none

end Sys2Proof
end

