-- ==== Sys2Proof/Machine/Extended.lean ====
section
/-! DEFINITION. The extended table read by its fields (30_encoding.md R91), for the row of the prefix byte. -/

namespace Sys2Proof.Machine

/-- The rule the extended table binds to `op2` (R91), with `pc` at the prefix byte. -/
def runExtended (op2 : Byte) (s : State) : Result :=
  match opX op2, r8Table (opZ op2) with
  | 0, some r => rotateReg (rotTable (opY op2)) r s
  | 0, none => rotateAtHl (rotTable (opY op2)) s
  | 1, some r => testBitReg (opYFin op2) r s
  | 1, none => testBitAtHl (opYFin op2) s
  | 2, some r => clearBitReg (opYFin op2) r s
  | 2, none => clearBitAtHl (opYFin op2) s
  | _, some r => setBitReg (opYFin op2) r s
  | _, none => setBitAtHl (opYFin op2) s

end Sys2Proof.Machine
end

