-- ==== Sys2Proof/Machine/System.lean ====
section
/-! DEFINITION. NOP, DI, EI, the unimplemented opcodes and the prefix byte (47_misc_system.md).
A meaning takes the state with `pc` at the instruction's first byte and its immediate already fetched; it moves `pc`
past the instruction itself (40_primitives_dispatch.md R111, R113). -/

namespace Sys2Proof.Machine

/-- R280: only `pc` moves. -/
def noOperation (s : State) : Result := .next (s.advance 1)

/-- `raise UnimplementedOpcode(op, pc0)` (40_primitives_dispatch.md R115): nothing has changed, `pc` is still `pc0`. -/
def unimplemented (opcode : Byte) (s : State) : Result :=
  raise (.unimplementedOpcode opcode s.pc) s

/-- The prefix byte alone (40_primitives_dispatch.md R111, R112; 47_misc_system.md R286): the byte after 0xCB is
read, and the rule the extended table binds to it is performed. A fetch that comes through never ends here (log 8). -/
def runExtendedAtPc (s : State) : Result :=
  readByte (s.pc + 1) (s.advance 1) fun op2 u => runExtended op2 (u.setPc s.pc)

/-- R280: `NOP`, 0x00. -/
def execNop (s : State) : Result := noOperation s

/-- R284: `STOP`, 0x10. -/
def execStop (s : State) : Result := unimplemented 0x10 s

/-- R283: `HALT`, 0x76. -/
def execHalt (s : State) : Result := unimplemented 0x76 s

/-- R286: `PREFIX CB`, 0xCB. -/
def execPrefixCb (s : State) : Result := runExtendedAtPc s

/-- R285: `ILLEGAL`, 0xD3. -/
def execIllegalD3 (s : State) : Result := unimplemented 0xD3 s

/-- R285: `ILLEGAL`, 0xDB. -/
def execIllegalDB (s : State) : Result := unimplemented 0xDB s

/-- R285: `ILLEGAL`, 0xDD. -/
def execIllegalDD (s : State) : Result := unimplemented 0xDD s

/-- R285: `ILLEGAL`, 0xE3. -/
def execIllegalE3 (s : State) : Result := unimplemented 0xE3 s

/-- R285: `ILLEGAL`, 0xE4. -/
def execIllegalE4 (s : State) : Result := unimplemented 0xE4 s

/-- R285: `ILLEGAL`, 0xEB. -/
def execIllegalEB (s : State) : Result := unimplemented 0xEB s

/-- R285: `ILLEGAL`, 0xEC. -/
def execIllegalEC (s : State) : Result := unimplemented 0xEC s

/-- R285: `ILLEGAL`, 0xED. -/
def execIllegalED (s : State) : Result := unimplemented 0xED s

/-- R281: `DI`, 0xF3. -/
def execDi (s : State) : Result := writeByte s.params.ieAddr s.params.diSentinel (s.advance 1) .next

/-- R285: `ILLEGAL`, 0xF4. -/
def execIllegalF4 (s : State) : Result := unimplemented 0xF4 s

/-- R282: `EI`, 0xFB. -/
def execEi (s : State) : Result := writeByte s.params.ieAddr s.params.eiSentinel (s.advance 1) .next

/-- R285: `ILLEGAL`, 0xFC. -/
def execIllegalFC (s : State) : Result := unimplemented 0xFC s

/-- R285: `ILLEGAL`, 0xFD. -/
def execIllegalFD (s : State) : Result := unimplemented 0xFD s

end Sys2Proof.Machine
end

