-- ==== Sys2Proof/Machine/Fetch.lean ====
section
/-! DEFINITION. Reading an instruction's own bytes: 40_primitives_dispatch.md R111, R118, 20_memory.md R55, R59. All of an
instruction's bytes are fetched before any of its data accesses (20_memory.md R68), so the fetch stands before the
meaning (log 9). -/

namespace Sys2Proof.Machine

/-- The `n` bytes at `pc`, `pc +16 1`, ..., each read moving `pc` past its byte (R118), then `k` on them. A read that fails
leaves `pc` at the failing byte. -/
def readBytes : Nat → State → (List Byte → State → Result) → Result
  | 0, s, k => k [] s
  | n + 1, s, k => readByte s.pc s fun v s => readBytes n (s.advance 1) fun vs s => k (v :: vs) s

/-- The instruction's bytes at `pc`, as many as its first byte asks for, then `k` on them with `pc` back at the first. -/
def fetch (s : State) (k : List Byte → State → Result) : Result :=
  readByte s.pc s fun op u =>
    readBytes (opcodeLength op - 1) (u.advance 1) fun rest u => k (op :: rest) (u.setPc s.pc)

/-- The cells at `addr`, `addr +16 1`, ...: what `n` reads answer where none fails. -/
def State.bytesFrom (s : State) (addr : Addr) : Nat → List Byte
  | 0 => []
  | n + 1 => s.byteAt addr :: s.bytesFrom (addr + 1) n

/-- The state after reads of `addr`, `addr +16 1`, ..., `n` of them. -/
def State.afterReads (s : State) (addr : Addr) : Nat → State
  | 0 => s
  | n + 1 => (s.afterRead addr).afterReads (addr + 1) n

/-- `bytes` placed at `addr`, `addr +16 1`, ... by the outside world, not by a store of the core. -/
def State.placeBytes (s : State) (addr : Addr) : List Byte → State
  | [] => s
  | v :: vs => State.placeBytes (s.setByte addr v) (addr + 1) vs

end Sys2Proof.Machine
end

