-- ==== Sys2Proof/Machine/Step.lean ====
section
/-! DEFINITION. One step (40_primitives_dispatch.md R110, R111) and the placing of an instruction where the next step fetches. -/

namespace Sys2Proof.Machine

/-- R111. A latched core has no step (10_state.md R29); otherwise the instruction at `pc` is fetched, decoded and
performed. The bytes a fetch asks for always decode (30_encoding.md R80): the second arm is never taken. -/
def step (s : State) : Host.Outcome State Fault Refusal :=
  match s.fault with
  | some r => .fault (.latched r)
  | none =>
    fetch s fun bytes u =>
      match decode bytes with
      | .instr i _ => exec i u
      | .reject _ => raise (.memoryReadError (u.pc + BitVec.ofNat 16 bytes.length)) u

/-- `s` with a table row's instruction at `pc`, zeros after it up to three bytes. -/
def State.withFetchWord (s : State) (nbits w : Nat) : State :=
  s.placeBytes s.pc ((tableBytes nbits w ++ [0, 0]).take 3)

end Sys2Proof.Machine
end

