-- ==== Sys2Proof/Machine/Snapshot.lean ====
section
/-! DEFINITION. The state snapshot port (10_state.md R35): a pure read of the state between steps. -/

namespace Sys2Proof.Machine

/-- What the snapshot port shows. -/
structure Snapshot where
  af : Addr
  bc : Addr
  de : Addr
  hl : Addr
  sp : Addr
  pc : Addr
  z : Bool
  n : Bool
  h : Bool
  c : Bool
  /-- The optional four bytes at and after `pc`, each `none` where the collaborator refuses the read. -/
  bytesAtPc : Option (List (Option Byte))
  deriving DecidableEq, Repr

/-- R35. A model that cannot guarantee a read without a side effect "leaves the four bytes out": they are left out for the
collaborators whose own state a read may move (log 15). -/
def State.snapshot (s : State) : Snapshot where
  af := s.pair .af
  bc := s.pair .bc
  de := s.pair .de
  hl := s.pair .hl
  sp := s.sp
  pc := s.pc
  z := s.flagZ
  n := s.flagN
  h := s.flagH
  c := s.flagC
  bytesAtPc :=
    match s.collab with
    | .stateDependent _ => none
    | _ => some ([0, 1, 2, 3].map fun k => if s.readFails (s.pc + k) then none else some (s.byteAt (s.pc + k)))

end Sys2Proof.Machine
end

