-- ==== Sys2Proof/Machine/Timing.lean ====
section
/-! DEFINITION. The cycle count a step reports, in T-states (30_encoding.md R97, 40_primitives_dispatch.md R114,
70_reset_and_hazards.md R346 to R348). It is an output of the step beside the next state: no state holds it (R28) and
nothing reads it (R347), so it stands in functions of its own (log 10). -/

namespace Sys2Proof.Machine

/-- How an instruction's cycle count is found. -/
inductive CycleCost where
  /-- One count. -/
  | fixed (n : Byte)
  /-- A conditional control transfer (R348). -/
  | branch (cc : Cond) (taken notTaken : Byte)
  /-- The prefix byte: its cost is included in the extended instruction's (47_misc_system.md R286). -/
  | ofExtended
  /-- A row that never completes reports none (R97). -/
  | fatal
  deriving DecidableEq, Repr

/-- The cycle column of the opcode table (R97). -/
def cycleCost : Instr → CycleCost
  | .nop => .fixed 4
  | .ldBcNn _ => .fixed 12
  | .ldAtBcA => .fixed 8
  | .incBc => .fixed 8
  | .incB => .fixed 4
  | .decB => .fixed 4
  | .ldBN _ => .fixed 8
  | .rlca => .fixed 4
  | .ldAtNnSp _ => .fixed 20
  | .addHlBc => .fixed 8
  | .ldAAtBc => .fixed 8
  | .decBc => .fixed 8
  | .incC => .fixed 4
  | .decC => .fixed 4
  | .ldCN _ => .fixed 8
  | .rrca => .fixed 4
  | .stop => .fatal
  | .ldDeNn _ => .fixed 12
  | .ldAtDeA => .fixed 8
  | .incDe => .fixed 8
  | .incD => .fixed 4
  | .decD => .fixed 4
  | .ldDN _ => .fixed 8
  | .rla => .fixed 4
  | .jrE _ => .fixed 12
  | .addHlDe => .fixed 8
  | .ldAAtDe => .fixed 8
  | .decDe => .fixed 8
  | .incE => .fixed 4
  | .decE => .fixed 4
  | .ldEN _ => .fixed 8
  | .rra => .fixed 4
  | .jrNzE _ => .branch .nz 12 8
  | .ldHlNn _ => .fixed 12
  | .ldAtHlIncA => .fixed 8
  | .incHl => .fixed 8
  | .incH => .fixed 4
  | .decH => .fixed 4
  | .ldHN _ => .fixed 8
  | .daa => .fixed 4
  | .jrZE _ => .branch .z 12 8
  | .addHlHl => .fixed 8
  | .ldAAtHlInc => .fixed 8
  | .decHl => .fixed 8
  | .incL => .fixed 4
  | .decL => .fixed 4
  | .ldLN _ => .fixed 8
  | .cpl => .fixed 4
  | .jrNcE _ => .branch .nc 12 8
  | .ldSpNn _ => .fixed 12
  | .ldAtHlDecA => .fixed 8
  | .incSp => .fixed 8
  | .incAtHl => .fixed 12
  | .decAtHl => .fixed 12
  | .ldAtHlN _ => .fixed 12
  | .scf => .fixed 4
  | .jrCE _ => .branch .c 12 8
  | .addHlSp => .fixed 8
  | .ldAAtHlDec => .fixed 8
  | .decSp => .fixed 8
  | .incA => .fixed 4
  | .decA => .fixed 4
  | .ldAN _ => .fixed 8
  | .ccf => .fixed 4
  | .ldBB => .fixed 4
  | .ldBC => .fixed 4
  | .ldBD => .fixed 4
  | .ldBE => .fixed 4
  | .ldBH => .fixed 4
  | .ldBL => .fixed 4
  | .ldBAtHl => .fixed 8
  | .ldBA => .fixed 4
  | .ldCB => .fixed 4
  | .ldCC => .fixed 4
  | .ldCD => .fixed 4
  | .ldCE => .fixed 4
  | .ldCH => .fixed 4
  | .ldCL => .fixed 4
  | .ldCAtHl => .fixed 8
  | .ldCA => .fixed 4
  | .ldDB => .fixed 4
  | .ldDC => .fixed 4
  | .ldDD => .fixed 4
  | .ldDE => .fixed 4
  | .ldDH => .fixed 4
  | .ldDL => .fixed 4
  | .ldDAtHl => .fixed 8
  | .ldDA => .fixed 4
  | .ldEB => .fixed 4
  | .ldEC => .fixed 4
  | .ldED => .fixed 4
  | .ldEE => .fixed 4
  | .ldEH => .fixed 4
  | .ldEL => .fixed 4
  | .ldEAtHl => .fixed 8
  | .ldEA => .fixed 4
  | .ldHB => .fixed 4
  | .ldHC => .fixed 4
  | .ldHD => .fixed 4
  | .ldHE => .fixed 4
  | .ldHH => .fixed 4
  | .ldHL => .fixed 4
  | .ldHAtHl => .fixed 8
  | .ldHA => .fixed 4
  | .ldLB => .fixed 4
  | .ldLC => .fixed 4
  | .ldLD => .fixed 4
  | .ldLE => .fixed 4
  | .ldLH => .fixed 4
  | .ldLL => .fixed 4
  | .ldLAtHl => .fixed 8
  | .ldLA => .fixed 4
  | .ldAtHlB => .fixed 8
  | .ldAtHlC => .fixed 8
  | .ldAtHlD => .fixed 8
  | .ldAtHlE => .fixed 8
  | .ldAtHlH => .fixed 8
  | .ldAtHlL => .fixed 8
  | .halt => .fatal
  | .ldAtHlA => .fixed 8
  | .ldAB => .fixed 4
  | .ldAC => .fixed 4
  | .ldAD => .fixed 4
  | .ldAE => .fixed 4
  | .ldAH => .fixed 4
  | .ldAL => .fixed 4
  | .ldAAtHl => .fixed 8
  | .ldAA => .fixed 4
  | .addAB => .fixed 4
  | .addAC => .fixed 4
  | .addAD => .fixed 4
  | .addAE => .fixed 4
  | .addAH => .fixed 4
  | .addAL => .fixed 4
  | .addAAtHl => .fixed 8
  | .addAA => .fixed 4
  | .adcAB => .fixed 4
  | .adcAC => .fixed 4
  | .adcAD => .fixed 4
  | .adcAE => .fixed 4
  | .adcAH => .fixed 4
  | .adcAL => .fixed 4
  | .adcAAtHl => .fixed 8
  | .adcAA => .fixed 4
  | .subB => .fixed 4
  | .subC => .fixed 4
  | .subD => .fixed 4
  | .subE => .fixed 4
  | .subH => .fixed 4
  | .subL => .fixed 4
  | .subAtHl => .fixed 8
  | .subA => .fixed 4
  | .sbcAB => .fixed 4
  | .sbcAC => .fixed 4
  | .sbcAD => .fixed 4
  | .sbcAE => .fixed 4
  | .sbcAH => .fixed 4
  | .sbcAL => .fixed 4
  | .sbcAAtHl => .fixed 8
  | .sbcAA => .fixed 4
  | .andB => .fixed 4
  | .andC => .fixed 4
  | .andD => .fixed 4
  | .andE => .fixed 4
  | .andH => .fixed 4
  | .andL => .fixed 4
  | .andAtHl => .fixed 8
  | .andA => .fixed 4
  | .xorB => .fixed 4
  | .xorC => .fixed 4
  | .xorD => .fixed 4
  | .xorE => .fixed 4
  | .xorH => .fixed 4
  | .xorL => .fixed 4
  | .xorAtHl => .fixed 8
  | .xorA => .fixed 4
  | .orB => .fixed 4
  | .orC => .fixed 4
  | .orD => .fixed 4
  | .orE => .fixed 4
  | .orH => .fixed 4
  | .orL => .fixed 4
  | .orAtHl => .fixed 8
  | .orA => .fixed 4
  | .cpB => .fixed 4
  | .cpC => .fixed 4
  | .cpD => .fixed 4
  | .cpE => .fixed 4
  | .cpH => .fixed 4
  | .cpL => .fixed 4
  | .cpAtHl => .fixed 8
  | .cpA => .fixed 4
  | .retNz => .branch .nz 20 8
  | .popBc => .fixed 12
  | .jpNzNn _ => .branch .nz 16 12
  | .jpNn _ => .fixed 16
  | .callNzNn _ => .branch .nz 24 12
  | .pushBc => .fixed 16
  | .addAN _ => .fixed 8
  | .rst00 => .fixed 16
  | .retZ => .branch .z 20 8
  | .ret => .fixed 16
  | .jpZNn _ => .branch .z 16 12
  | .prefixCb => .ofExtended
  | .callZNn _ => .branch .z 24 12
  | .callNn _ => .fixed 24
  | .adcAN _ => .fixed 8
  | .rst08 => .fixed 16
  | .retNc => .branch .nc 20 8
  | .popDe => .fixed 12
  | .jpNcNn _ => .branch .nc 16 12
  | .illegalD3 => .fatal
  | .callNcNn _ => .branch .nc 24 12
  | .pushDe => .fixed 16
  | .subN _ => .fixed 8
  | .rst10 => .fixed 16
  | .retC => .branch .c 20 8
  | .reti => .fixed 16
  | .jpCNn _ => .branch .c 16 12
  | .illegalDB => .fatal
  | .callCNn _ => .branch .c 24 12
  | .illegalDD => .fatal
  | .sbcAN _ => .fixed 8
  | .rst18 => .fixed 16
  | .ldhAtNA _ => .fixed 12
  | .popHl => .fixed 12
  | .ldAtCA => .fixed 8
  | .illegalE3 => .fatal
  | .illegalE4 => .fatal
  | .pushHl => .fixed 16
  | .andN _ => .fixed 8
  | .rst20 => .fixed 16
  | .addSpE _ => .fixed 16
  | .jpHl => .fixed 4
  | .ldAtNnA _ => .fixed 16
  | .illegalEB => .fatal
  | .illegalEC => .fatal
  | .illegalED => .fatal
  | .xorN _ => .fixed 8
  | .rst28 => .fixed 16
  | .ldhAAtN _ => .fixed 12
  | .popAf => .fixed 12
  | .ldAAtC => .fixed 8
  | .di => .fixed 4
  | .illegalF4 => .fatal
  | .pushAf => .fixed 16
  | .orN _ => .fixed 8
  | .rst30 => .fixed 16
  | .ldHlSpE _ => .fixed 12
  | .ldSpHl => .fixed 8
  | .ldAAtNn _ => .fixed 16
  | .ei => .fixed 4
  | .illegalFC => .fatal
  | .illegalFD => .fatal
  | .cpN _ => .fixed 8
  | .rst38 => .fixed 16
  | .rlcB => .fixed 8
  | .rlcC => .fixed 8
  | .rlcD => .fixed 8
  | .rlcE => .fixed 8
  | .rlcH => .fixed 8
  | .rlcL => .fixed 8
  | .rlcAtHl => .fixed 16
  | .rlcA => .fixed 8
  | .rrcB => .fixed 8
  | .rrcC => .fixed 8
  | .rrcD => .fixed 8
  | .rrcE => .fixed 8
  | .rrcH => .fixed 8
  | .rrcL => .fixed 8
  | .rrcAtHl => .fixed 16
  | .rrcA => .fixed 8
  | .rlB => .fixed 8
  | .rlC => .fixed 8
  | .rlD => .fixed 8
  | .rlE => .fixed 8
  | .rlH => .fixed 8
  | .rlL => .fixed 8
  | .rlAtHl => .fixed 16
  | .rlA => .fixed 8
  | .rrB => .fixed 8
  | .rrC => .fixed 8
  | .rrD => .fixed 8
  | .rrE => .fixed 8
  | .rrH => .fixed 8
  | .rrL => .fixed 8
  | .rrAtHl => .fixed 16
  | .rrA => .fixed 8
  | .slaB => .fixed 8
  | .slaC => .fixed 8
  | .slaD => .fixed 8
  | .slaE => .fixed 8
  | .slaH => .fixed 8
  | .slaL => .fixed 8
  | .slaAtHl => .fixed 16
  | .slaA => .fixed 8
  | .sraB => .fixed 8
  | .sraC => .fixed 8
  | .sraD => .fixed 8
  | .sraE => .fixed 8
  | .sraH => .fixed 8
  | .sraL => .fixed 8
  | .sraAtHl => .fixed 16
  | .sraA => .fixed 8
  | .swapB => .fixed 8
  | .swapC => .fixed 8
  | .swapD => .fixed 8
  | .swapE => .fixed 8
  | .swapH => .fixed 8
  | .swapL => .fixed 8
  | .swapAtHl => .fixed 16
  | .swapA => .fixed 8
  | .srlB => .fixed 8
  | .srlC => .fixed 8
  | .srlD => .fixed 8
  | .srlE => .fixed 8
  | .srlH => .fixed 8
  | .srlL => .fixed 8
  | .srlAtHl => .fixed 16
  | .srlA => .fixed 8
  | .bit0B => .fixed 8
  | .bit0C => .fixed 8
  | .bit0D => .fixed 8
  | .bit0E => .fixed 8
  | .bit0H => .fixed 8
  | .bit0L => .fixed 8
  | .bit0AtHl => .fixed 12
  | .bit0A => .fixed 8
  | .bit1B => .fixed 8
  | .bit1C => .fixed 8
  | .bit1D => .fixed 8
  | .bit1E => .fixed 8
  | .bit1H => .fixed 8
  | .bit1L => .fixed 8
  | .bit1AtHl => .fixed 12
  | .bit1A => .fixed 8
  | .bit2B => .fixed 8
  | .bit2C => .fixed 8
  | .bit2D => .fixed 8
  | .bit2E => .fixed 8
  | .bit2H => .fixed 8
  | .bit2L => .fixed 8
  | .bit2AtHl => .fixed 12
  | .bit2A => .fixed 8
  | .bit3B => .fixed 8
  | .bit3C => .fixed 8
  | .bit3D => .fixed 8
  | .bit3E => .fixed 8
  | .bit3H => .fixed 8
  | .bit3L => .fixed 8
  | .bit3AtHl => .fixed 12
  | .bit3A => .fixed 8
  | .bit4B => .fixed 8
  | .bit4C => .fixed 8
  | .bit4D => .fixed 8
  | .bit4E => .fixed 8
  | .bit4H => .fixed 8
  | .bit4L => .fixed 8
  | .bit4AtHl => .fixed 12
  | .bit4A => .fixed 8
  | .bit5B => .fixed 8
  | .bit5C => .fixed 8
  | .bit5D => .fixed 8
  | .bit5E => .fixed 8
  | .bit5H => .fixed 8
  | .bit5L => .fixed 8
  | .bit5AtHl => .fixed 12
  | .bit5A => .fixed 8
  | .bit6B => .fixed 8
  | .bit6C => .fixed 8
  | .bit6D => .fixed 8
  | .bit6E => .fixed 8
  | .bit6H => .fixed 8
  | .bit6L => .fixed 8
  | .bit6AtHl => .fixed 12
  | .bit6A => .fixed 8
  | .bit7B => .fixed 8
  | .bit7C => .fixed 8
  | .bit7D => .fixed 8
  | .bit7E => .fixed 8
  | .bit7H => .fixed 8
  | .bit7L => .fixed 8
  | .bit7AtHl => .fixed 12
  | .bit7A => .fixed 8
  | .res0B => .fixed 8
  | .res0C => .fixed 8
  | .res0D => .fixed 8
  | .res0E => .fixed 8
  | .res0H => .fixed 8
  | .res0L => .fixed 8
  | .res0AtHl => .fixed 16
  | .res0A => .fixed 8
  | .res1B => .fixed 8
  | .res1C => .fixed 8
  | .res1D => .fixed 8
  | .res1E => .fixed 8
  | .res1H => .fixed 8
  | .res1L => .fixed 8
  | .res1AtHl => .fixed 16
  | .res1A => .fixed 8
  | .res2B => .fixed 8
  | .res2C => .fixed 8
  | .res2D => .fixed 8
  | .res2E => .fixed 8
  | .res2H => .fixed 8
  | .res2L => .fixed 8
  | .res2AtHl => .fixed 16
  | .res2A => .fixed 8
  | .res3B => .fixed 8
  | .res3C => .fixed 8
  | .res3D => .fixed 8
  | .res3E => .fixed 8
  | .res3H => .fixed 8
  | .res3L => .fixed 8
  | .res3AtHl => .fixed 16
  | .res3A => .fixed 8
  | .res4B => .fixed 8
  | .res4C => .fixed 8
  | .res4D => .fixed 8
  | .res4E => .fixed 8
  | .res4H => .fixed 8
  | .res4L => .fixed 8
  | .res4AtHl => .fixed 16
  | .res4A => .fixed 8
  | .res5B => .fixed 8
  | .res5C => .fixed 8
  | .res5D => .fixed 8
  | .res5E => .fixed 8
  | .res5H => .fixed 8
  | .res5L => .fixed 8
  | .res5AtHl => .fixed 16
  | .res5A => .fixed 8
  | .res6B => .fixed 8
  | .res6C => .fixed 8
  | .res6D => .fixed 8
  | .res6E => .fixed 8
  | .res6H => .fixed 8
  | .res6L => .fixed 8
  | .res6AtHl => .fixed 16
  | .res6A => .fixed 8
  | .res7B => .fixed 8
  | .res7C => .fixed 8
  | .res7D => .fixed 8
  | .res7E => .fixed 8
  | .res7H => .fixed 8
  | .res7L => .fixed 8
  | .res7AtHl => .fixed 16
  | .res7A => .fixed 8
  | .set0B => .fixed 8
  | .set0C => .fixed 8
  | .set0D => .fixed 8
  | .set0E => .fixed 8
  | .set0H => .fixed 8
  | .set0L => .fixed 8
  | .set0AtHl => .fixed 16
  | .set0A => .fixed 8
  | .set1B => .fixed 8
  | .set1C => .fixed 8
  | .set1D => .fixed 8
  | .set1E => .fixed 8
  | .set1H => .fixed 8
  | .set1L => .fixed 8
  | .set1AtHl => .fixed 16
  | .set1A => .fixed 8
  | .set2B => .fixed 8
  | .set2C => .fixed 8
  | .set2D => .fixed 8
  | .set2E => .fixed 8
  | .set2H => .fixed 8
  | .set2L => .fixed 8
  | .set2AtHl => .fixed 16
  | .set2A => .fixed 8
  | .set3B => .fixed 8
  | .set3C => .fixed 8
  | .set3D => .fixed 8
  | .set3E => .fixed 8
  | .set3H => .fixed 8
  | .set3L => .fixed 8
  | .set3AtHl => .fixed 16
  | .set3A => .fixed 8
  | .set4B => .fixed 8
  | .set4C => .fixed 8
  | .set4D => .fixed 8
  | .set4E => .fixed 8
  | .set4H => .fixed 8
  | .set4L => .fixed 8
  | .set4AtHl => .fixed 16
  | .set4A => .fixed 8
  | .set5B => .fixed 8
  | .set5C => .fixed 8
  | .set5D => .fixed 8
  | .set5E => .fixed 8
  | .set5H => .fixed 8
  | .set5L => .fixed 8
  | .set5AtHl => .fixed 16
  | .set5A => .fixed 8
  | .set6B => .fixed 8
  | .set6C => .fixed 8
  | .set6D => .fixed 8
  | .set6E => .fixed 8
  | .set6H => .fixed 8
  | .set6L => .fixed 8
  | .set6AtHl => .fixed 16
  | .set6A => .fixed 8
  | .set7B => .fixed 8
  | .set7C => .fixed 8
  | .set7D => .fixed 8
  | .set7E => .fixed 8
  | .set7H => .fixed 8
  | .set7L => .fixed 8
  | .set7AtHl => .fixed 16
  | .set7A => .fixed 8

/-- The count a completed execution of `i` from `s` reports; conditions are tested on F as the instruction finds it (R109). -/
def cycleReport (i : Instr) (s : State) : Option Byte :=
  match cycleCost i with
  | .fixed n => some n
  | .branch cc taken notTaken => some (if s.cond cc then taken else notTaken)
  | .ofExtended =>
    match cycleCost (extendedTable (s.byteAt (s.pc + 1))) with
    | .fixed n => some n
    | _ => none
  | .fatal => none

/-- What `step` reports from `s` (R110, R114): the count of the instruction at `pc` when it completes, none when it raises a
fatal condition or there is no step. -/
def stepCycles (s : State) : Option Byte :=
  match step s, decode (s.bytesFrom s.pc 3) with
  | .next t, .instr i _ => if t.fault.isNone then cycleReport i s else none
  | _, _ => none

end Sys2Proof.Machine
end

