-- ==== Sys2Proof/Safety.lean ====
section
/-! DEFINITION. The terms claims are stated in: what a run that has not failed is, what it means that an instruction
completes or raises, and what an instruction leaves unchanged. -/

namespace Sys2Proof.Machine

/-! ### Runs -/

/-- `n` steps from `s` end in `t` with no fatal condition: "a faulted state is never a final state"
(70_reset_and_hazards.md R350, 60_exceptions.md R307). -/
def SafeRun (n : Nat) (s t : State) : Prop := Sys2Proof.core.run n s = .next t ∧ t.fault = none

/-- The invariant of the state: memory in its canonical form, and "bits 3 to 0 are always zero" of F (10_state.md R21). -/
def Inv (s : State) : Prop := Memory.wf s.mem = true ∧ s.f &&& 0x0F = 0

/-! ### What an execution does -/

/-- `i` has the bytes `code`, and executing it from `s` answers a next state, raises nothing, leaves the model's
arguments alone, leaves the collaborator's own state as it is in `after` (log 3), reports `cycles`, and makes `post` true
of the next state. -/
def CompletesWith (after : State) (i : Instr) (s : State) (code : List Byte) (cycles : Byte) (post : State → Prop) : Prop :=
  encode i = code ∧ cycleReport i s = some cycles ∧
    ∃ t, exec i s = .next t ∧ t.fault = s.fault ∧ t.collab = s.collab ∧ t.collabState = after.collabState ∧
      t.params = s.params ∧ post t

/-- `CompletesWith` for an instruction that asks the collaborator nothing. -/
abbrev Completes (i : Instr) (s : State) (code : List Byte) (cycles : Byte) (post : State → Prop) : Prop :=
  CompletesWith s i s code cycles post

/-- Executing `i` from `s` raises `r`. Nothing is said of the rest of the faulted state (60_exceptions.md R307). -/
def Raises (i : Instr) (s : State) (r : Fatal) : Prop := ∃ t, exec i s = .next t ∧ t.fault = some r

/-- Every register of the operand table but `dest` is unchanged. -/
def KeepsRegs (dest : List Reg8) (s t : State) : Prop := ∀ r, r ∉ dest → t.reg r = s.reg r

/-- Every byte of memory outside `stored` reads as before. -/
def KeepsMem (stored : List Addr) (s t : State) : Prop := ∀ addr, addr ∉ stored → t.byteAt addr = s.byteAt addr

/-- The frame of an instruction that does not transfer control and leaves SP: no register outside `dest` changes, no byte
of memory outside `stored` changes, and `pc` has grown by the length (10_state.md R25). F is spoken of apart. -/
def Frame (dest : List Reg8) (stored : List Addr) (length : Addr) (s t : State) : Prop :=
  KeepsRegs dest s t ∧ KeepsMem stored s t ∧ t.sp = s.sp ∧ t.pc = s.pc + length

/-- The condition table of the evaluator (40_primitives_dispatch.md R109), by the masks of 10_state.md R21. -/
def CondHolds (cc : Cond) (s : State) : Prop :=
  match cc with
  | .nz => s.f &&& 0x80 = 0
  | .z => s.f &&& 0x80 ≠ 0
  | .nc => s.f &&& 0x10 = 0
  | .c => s.f &&& 0x10 ≠ 0

/-- F holds the four flags and a low nibble of zero: `z*0x80 + n*0x40 + h*0x20 + c*0x10` (00_scope.md R7). -/
def HasFlags (t : State) (z n h c : Bool) : Prop :=
  t.f.toNat = z.toNat * 0x80 + n.toNat * 0x40 + h.toNat * 0x20 + c.toNat * 0x10

/-- `i` reads the byte at `x` and completes with `post` of that byte and the next state; where the collaborator refuses
the read, it raises `MemoryReadError` (60_exceptions.md R302). -/
def Loads (i : Instr) (s : State) (x : Addr) (code : List Byte) (cycles : Byte) (post : Byte → State → Prop) : Prop :=
  (s.readFails x = false → CompletesWith (s.afterRead x) i s code cycles (post (s.byteAt x))) ∧
  (s.readFails x = true → Raises i s (.memoryReadError x))

/-- `i` stores `v` at `x` and completes with `post`; where the collaborator refuses the write, it raises
`MemoryWriteError` (60_exceptions.md R303). -/
def Stores (i : Instr) (s : State) (x : Addr) (v : Byte) (code : List Byte) (cycles : Byte) (post : State → Prop) : Prop :=
  (s.writeFails x v = false → CompletesWith (s.afterWrite x v) i s code cycles fun t => t.byteAt x = v ∧ post t) ∧
  (s.writeFails x v = true → Raises i s (.memoryWriteError x v))

/-- `i` reads the byte at `x` and stores `v` there, a value computed from the byte read, and completes with `post`. The
write is asked of the collaborator after the read. -/
def Updates (i : Instr) (s : State) (x : Addr) (v : Byte) (code : List Byte) (cycles : Byte) (post : State → Prop) : Prop :=
  (s.readFails x = false → (s.afterRead x).writeFails x v = false →
    CompletesWith ((s.afterRead x).afterWrite x v) i s code cycles fun t => t.byteAt x = v ∧ post t) ∧
  (s.readFails x = true → Raises i s (.memoryReadError x)) ∧
  (s.readFails x = false → (s.afterRead x).writeFails x v = true → Raises i s (.memoryWriteError x v))

/-- `i` pushes `v`: the high byte at `SP - 1`, then the low byte at `SP - 2` (40_primitives_dispatch.md R119). The second
write is asked of the collaborator after the first has been made. No register and no flag changes. -/
def Pushes (i : Instr) (s : State) (v : Addr) (code : List Byte) (cycles : Byte) (pc : Addr) : Prop :=
  (s.writeFails (s.sp - 1) (hiByte v) = false →
    (s.afterWrite (s.sp - 1) (hiByte v)).writeFails (s.sp - 2) (loByte v) = false →
    CompletesWith ((s.afterWrite (s.sp - 1) (hiByte v)).afterWrite (s.sp - 2) (loByte v)) i s code cycles fun t =>
      t.byteAt (s.sp - 1) = hiByte v ∧ t.byteAt (s.sp - 2) = loByte v ∧ t.sp = s.sp - 2 ∧ t.pc = pc ∧
        t.f = s.f ∧ KeepsRegs [] s t ∧ KeepsMem [s.sp - 1, s.sp - 2] s t) ∧
  (s.writeFails (s.sp - 1) (hiByte v) = true → Raises i s (.memoryWriteError (s.sp - 1) (hiByte v))) ∧
  (s.writeFails (s.sp - 1) (hiByte v) = false →
    (s.afterWrite (s.sp - 1) (hiByte v)).writeFails (s.sp - 2) (loByte v) = true →
    Raises i s (.memoryWriteError (s.sp - 2) (loByte v)))

/-- `i` pops a value, the low byte at `SP` and the high byte at `SP + 1` (40_primitives_dispatch.md R120), and completes with
`post` of that value. Memory does not change. -/
def Pops (i : Instr) (s : State) (code : List Byte) (cycles : Byte) (post : Addr → State → Prop) : Prop :=
  (s.readFails s.sp = false → (s.afterRead s.sp).readFails (s.sp + 1) = false →
    CompletesWith ((s.afterRead s.sp).afterRead (s.sp + 1)) i s code cycles fun t =>
      t.sp = s.sp + 2 ∧ KeepsMem [] s t ∧ post (joinBytes (s.byteAt (s.sp + 1)) (s.byteAt s.sp)) t) ∧
  (s.readFails s.sp = true → Raises i s (.memoryReadError s.sp)) ∧
  (s.readFails s.sp = false → (s.afterRead s.sp).readFails (s.sp + 1) = true → Raises i s (.memoryReadError (s.sp + 1)))

/-- The reads of `addr`, `addr +16 1`, ..., `n` of them, one after the other, are answered. -/
def ReadsAnswered (s : State) (addr : Addr) (n : Nat) : Prop :=
  ∀ k < n, (s.afterReads addr k).readFails (addr + BitVec.ofNat 16 k) = false

/-- The bytes `code` stand at `addr`, `addr +16 1`, ..., and the collaborator answers their reads. -/
def BytesAt (s : State) (addr : Addr) (code : List Byte) : Prop :=
  s.bytesFrom addr code.length = code ∧ ReadsAnswered s addr code.length

/-- `sext_16(e)` as a number (00_scope.md R6): `e` when `e < 0x80`, else `e + 0xFF00`. -/
def sextNat (e : Byte) : Nat := if e.toNat < 0x80 then e.toNat else e.toNat + 0xFF00

/-- The control transfers (46_control_transfer.md). -/
def TransfersControl (i : Instr) : Prop :=
  (∃ nn, i = .jpNn nn) ∨ (∃ cc nn, i = .jpCond cc nn) ∨ i = .jpHl ∨ (∃ e, i = .jrE e) ∨ (∃ cc e, i = .jrCond cc e) ∨
  (∃ nn, i = .callNn nn) ∨ (∃ cc nn, i = .callCond cc nn) ∨ i = .ret ∨ (∃ cc, i = .retCond cc) ∨ i = .reti ∨
  ∃ y, i = .rst y

/-- The instructions 10_state.md R26 lists as writing SP. -/
def WritesSp (i : Instr) : Prop :=
  (∃ nn, i = .ldSpNn nn) ∨ i = .ldSpHl ∨ (∃ e, i = .addSpE e) ∨ i = .incSp ∨ i = .decSp ∨ (∃ qq, i = .push qq) ∨
  (∃ qq, i = .pop qq) ∨ (∃ nn, i = .callNn nn) ∨ (∃ cc nn, i = .callCond cc nn) ∨ i = .ret ∨ (∃ cc, i = .retCond cc) ∨
  i = .reti ∨ ∃ y, i = .rst y

/-- The registers a pair is made of (10_state.md R22); F is spoken of apart. -/
def pairRegs : Pair → List Reg8
  | .af => [.a]
  | .bc => [.b, .c]
  | .de => [.d, .e]
  | .hl => [.h, .l]

/-- The registers a 16-bit operand is made of. -/
def reg16Regs : Reg16 → List Reg8
  | .bc => [.b, .c]
  | .de => [.d, .e]
  | .hl => [.h, .l]
  | .sp => []

/-! ### The three sources of an ALU operand (43_alu_8bit.md, section 3) -/

/-- Where the operand `v` of an ALU instruction comes from. -/
inductive AluSource where
  | reg (r : Reg8)
  | atHl
  | imm (n : Byte)
  deriving DecidableEq, Repr

/-- The instruction. -/
def AluSource.instr (op : AluOp) : AluSource → Instr
  | .reg r => .aluReg op r
  | .atHl => .aluAtHl op
  | .imm n => .aluImm op n

/-- The operand's value. -/
def AluSource.value (s : State) : AluSource → Byte
  | .reg r => s.reg r
  | .atHl => s.byteAt s.hl
  | .imm n => n

/-- The state after its read, if it has one. -/
def AluSource.afterRead (s : State) : AluSource → State
  | .reg _ => s
  | .atHl => s.afterRead s.hl
  | .imm _ => s

/-- Its read does not fail. -/
def AluSource.readable (s : State) : AluSource → Prop
  | .reg _ => True
  | .atHl => s.readFails s.hl = false
  | .imm _ => True

/-- The bytes: `0b10 yyy zzz`, `0b10 yyy 110`, or `0b11 yyy 110` and `n`. -/
def AluSource.code (op : AluOp) : AluSource → List Byte
  | .reg r => [0x80 + 8 * aluIndex op + regIndex r]
  | .atHl => [0x86 + 8 * aluIndex op]
  | .imm n => [0xC6 + 8 * aluIndex op, n]

/-- 4, 8 and 8 T-states (30_encoding.md R97). -/
def AluSource.cycles : AluSource → Byte
  | .reg _ => 4
  | .atHl => 8
  | .imm _ => 8

/-- The instruction's length. -/
def AluSource.length : AluSource → Addr
  | .reg _ => 1
  | .atHl => 1
  | .imm _ => 2

/-- The ALU operation `op` on `src` leaves `r` in A and the flags `z n h c`, and changes no other register, SP or memory;
where the read of `(HL)` is refused it raises. -/
def AluCompletes (op : AluOp) (src : AluSource) (s : State) (r : Byte) (z n h c : Bool) : Prop :=
  (src.readable s → CompletesWith (src.afterRead s) (src.instr op) s (src.code op) src.cycles fun t =>
    t.a = r ∧ HasFlags t z n h c ∧ Frame [.a] [] src.length s t) ∧
  (src = .atHl → s.readFails s.hl = true → Raises (src.instr op) s (.memoryReadError s.hl))

/-! ### The rotate functions in arithmetic (45_rotate_shift_bit.md R234) -/

/-- The result of a rotate or shift of `v` with carry-in `cin`, as numbers. -/
def rotResult : RotOp → Nat → Nat → Nat
  | .rlc, v, _ => 2 * v % 256 + v / 128
  | .rrc, v, _ => v / 2 + 128 * (v % 2)
  | .rl, v, cin => 2 * v % 256 + cin
  | .rr, v, cin => v / 2 + 128 * cin
  | .sla, v, _ => 2 * v % 256
  | .sra, v, _ => v / 2 + 128 * (v / 128)
  | .swap, v, _ => v % 16 * 16 + v / 16
  | .srl, v, _ => v / 2

/-- The carry out: bit 7 for the left forms, bit 0 for the right forms, 0 for `SWAP`. -/
def rotCarry : RotOp → Nat → Bool
  | .rlc, v => decide (v / 128 = 1)
  | .rrc, v => decide (v % 2 = 1)
  | .rl, v => decide (v / 128 = 1)
  | .rr, v => decide (v % 2 = 1)
  | .sla, v => decide (v / 128 = 1)
  | .sra, v => decide (v % 2 = 1)
  | .swap, _ => false
  | .srl, v => decide (v % 2 = 1)

end Sys2Proof.Machine
end

