-- ==== Sys2Proof/Certificates/Slice0/Obligations.lean ====
section
/-! DEFINITION. The statements for the provers. A statement about a faulted state speaks of its `fault` alone
(60_exceptions.md R307), but for `UnimplementedOpcode`, which is precise (R301). That a completed instruction leaves the
collaborator's own state as its accesses, in their order, leave it is the model's form of 10_state.md R30: log 3. -/

open Sys2Proof Sys2Proof.Machine

/-! ### Reset -/

/-- 10_state.md R33: the register file after reset and after power-on, with the pairs and the flags. -/
def Obligations.ResetRegisterValues : Prop :=
  ∀ s : State,
    (s = State.reset ∨ (∃ u memAfter stateAfter, s = State.resetEvent u memAfter stateAfter) ∨
      ∃ cart collab collabState params, State.powerOn cart collab collabState params = some s) →
    s.a = 0x01 ∧ s.f = 0xB0 ∧ s.b = 0x00 ∧ s.c = 0x13 ∧ s.d = 0x00 ∧ s.e = 0xD8 ∧ s.h = 0x01 ∧ s.l = 0x4D ∧
    s.pair .af = 0x01B0 ∧ s.pair .bc = 0x0013 ∧ s.pair .de = 0x00D8 ∧ s.pair .hl = 0x014D ∧
    s.flagZ = true ∧ s.flagN = false ∧ s.flagH = true ∧ s.flagC = true

/-- 10_state.md R34, 20_memory.md R54, 70_reset_and_hazards.md R340, R341 (decisions D3, D16, D19): `pc`, SP and the latch
after reset; the reset event keeps the model's arguments; power-on puts the cartridge at 0.. and 0x00 beyond and refuses
an image longer than 65536 bytes (log 17). What memory and the collaborator's own state are after the reset event are
arguments: log 11. -/
def Obligations.ResetControlStateAndMemory : Prop :=
  (∀ (u : State) (memAfter : Memory) (stateAfter : Nat), (u.resetEvent memAfter stateAfter).mem = memAfter ∧
    (u.resetEvent memAfter stateAfter).collabState = stateAfter ∧
    (u.resetEvent memAfter stateAfter).collab = u.collab ∧ (u.resetEvent memAfter stateAfter).params = u.params) ∧
  (∀ s : State,
    (s = State.reset ∨ (∃ u memAfter stateAfter, s = State.resetEvent u memAfter stateAfter) ∨
      ∃ cart collab collabState params, State.powerOn cart collab collabState params = some s) →
    s.pc = 0x0100 ∧ s.sp = 0xFFFE ∧ s.fault = none) ∧
  ∀ (cart : List Byte) (collab : Collaborator) (collabState : Nat) (params : Params),
    (cart.length ≤ 65536 → ∃ s, State.powerOn cart collab collabState params = some s ∧ s.collab = collab ∧
      s.collabState = collabState ∧ s.params = params ∧
      ∀ addr : Addr, s.byteAt addr = cart.getD addr.toNat 0x00) ∧
    (65536 < cart.length → State.powerOn cart collab collabState params = none)

/-- 10_state.md R22, R23: a pair is its live registers, high register in bits 15 to 8; writing a pair and reading it back
gives the value, with the low nibble of F masked for AF; and a pair write changes no other register. -/
def Obligations.PairReadAndWrite : Prop :=
  ∀ (s : State) (v : Addr),
    (s.pair .af).toNat = s.a.toNat * 256 + s.f.toNat ∧ (s.pair .bc).toNat = s.b.toNat * 256 + s.c.toNat ∧
    (s.pair .de).toNat = s.d.toNat * 256 + s.e.toNat ∧ (s.pair .hl).toNat = s.h.toNat * 256 + s.l.toNat ∧
    (∀ p, (s.setPair p v).pair p = if p = .af then v &&& 0xFFF0 else v) ∧
    (∀ p q, q ≠ p → (s.setPair p v).pair q = s.pair q) ∧
    ∀ p, KeepsRegs (pairRegs p) s (s.setPair p v) ∧ (p ≠ .af → (s.setPair p v).f = s.f)

/-! ### Decoding and encoding -/

/-- 30_encoding.md R80 to R93: the decoder reads back every well-formed instruction from its bytes, with every operand at
every value, whatever follows. -/
def Obligations.DecodeOfEncode : Prop :=
  ∀ (i : Instr) (rest : List Byte), WellFormed i = true → decode (encode i ++ rest) = .instr i rest

/-- 30_encoding.md R96: what the decoder reads encodes to the bytes it was read from, so no two byte strings are one
instruction. -/
def Obligations.EncodeOfDecode : Prop :=
  ∀ (bytes : List Byte) (i : Instr) (rest : List Byte), decode bytes = .instr i rest → encode i ++ rest = bytes

/-- 30_encoding.md R80, R93: the first byte alone decides the length, 0xCB always gives 2, and with that many bytes there is
always an instruction. With fewer there is none, but that 0xCB alone is the table row of the prefix, which is the model's
reading (log 8) and not a well-formed instruction. -/
def Obligations.FirstByteDecidesLength : Prop :=
  opcodeLength 0xCB = 2 ∧ decode [0xCB] = .instr .prefixCb [] ∧ WellFormed .prefixCb = false ∧
  ∀ (op : Byte) (rest : List Byte),
    1 ≤ opcodeLength op ∧ opcodeLength op ≤ 3 ∧
    (opcodeLength op ≤ rest.length + 1 →
      ∃ i, WellFormed i = true ∧ (encode i).length = opcodeLength op ∧
        decode (op :: rest) = .instr i (rest.drop (opcodeLength op - 1))) ∧
    (rest.length + 1 < opcodeLength op → op ≠ 0xCB → ∃ why, decode (op :: rest) = .reject why)

/-- A sanity statement: words written out from 30_encoding.md R81 to R91. -/
def Obligations.DecodeSanity : Prop :=
  decode [0b01000001] = .instr .ldBC [] ∧
  decode [0b01111110] = .instr .ldAAtHl [] ∧
  decode [0b00100001, 0x34, 0x12] = .instr (.ldHlNn 0x1234) [] ∧
  decode [0b11110101] = .instr .pushAf [] ∧
  decode [0b00110100] = .instr .incAtHl [] ∧
  decode [0b10011100] = .instr .sbcAH [] ∧
  decode [0b11111110, 0x3C] = .instr (.cpN 0x3C) [] ∧
  decode [0b00101001] = .instr .addHlHl [] ∧
  decode [0b00011111] = .instr .rra [] ∧
  decode [0b11001011, 0b00111111] = .instr .srlA [] ∧
  decode [0b11001011, 0b01111100] = .instr .bit7H [] ∧
  decode [0b11001011, 0b10000110] = .instr .res0AtHl [] ∧
  decode [0b00100000, 0xFB] = .instr (.jrNzE 0xFB) [] ∧
  decode [0b11011100, 0x00, 0x40] = .instr (.callCNn 0x4000) [] ∧
  decode [0b11101111] = .instr .rst28 [] ∧
  decode [0b01110110] = .instr .halt [] ∧
  decode [0b11011101] = .instr .illegalDD []

/-! ### The step -/

/-- 40_primitives_dispatch.md R111: when no fatal condition is latched and the bytes `code`, which stand at `pc` and whose
reads are answered, decode to `i`, the step is the execution of `i` after the reads of its bytes; the meaning itself moves
`pc` past the instruction (R113, log 9). The reads move nothing but the collaborator's own state (log 3). -/
def Obligations.StepRunsDecoded : Prop :=
  ∀ (s : State) (code : List Byte) (i : Instr) (rest : List Byte),
    s.fault = none → WellFormed i = true → BytesAt s s.pc code → decode code = .instr i rest →
    step s = exec i (s.afterReads s.pc (encode i).length) ∧
    s.afterReads s.pc (encode i).length =
      { s with collabState := (s.afterReads s.pc (encode i).length).collabState }

/-- 40_primitives_dispatch.md R111, 20_memory.md R55, R59: wherever the bytes of a well-formed instruction stand at `pc`, the
addresses wrapping modulo 0x10000, the step performs that instruction after the reads of those bytes and no others;
whatever stands after them plays no part. -/
def Obligations.StepPerformsInstructionAtPc : Prop :=
  ∀ (s : State) (i : Instr),
    s.fault = none → WellFormed i = true → BytesAt s s.pc (encode i) →
    step s = exec i (s.afterReads s.pc (encode i).length)

/-- 40_primitives_dispatch.md R110, R114 and 00_scope.md R12: a step completes and reports the cycle count of the instruction
whose bytes stand at `pc`, or it raises one fatal condition and reports none. -/
def Obligations.StepCompletesOrRaises : Prop :=
  ∀ s : State, s.fault = none →
    ∃ t, step s = .next t ∧
      ((t.fault = none ∧ ∃ i cycles, WellFormed i = true ∧ BytesAt s s.pc (encode i) ∧
          exec i (s.afterReads s.pc (encode i).length) = .next t ∧
          stepCycles s = cycleReport i s ∧ cycleReport i s = some cycles) ∨
        (∃ r, t.fault = some r ∧ stepCycles s = none))

/-- 40_primitives_dispatch.md R118, 60_exceptions.md R302, R305: of the bytes the first byte asks for, the first whose read
fails is the one reported. Where none of them fails the step is an execution after exactly those reads: no byte past them
is read. -/
def Obligations.FetchFailureIsReported : Prop :=
  ∀ s : State, s.fault = none →
    (∀ k, k = 0 ∨ k < opcodeLength (s.byteAt s.pc) → ReadsAnswered s s.pc k →
      (s.afterReads s.pc k).readFails (s.pc + BitVec.ofNat 16 k) = true →
      ∃ t, step s = .next t ∧ t.fault = some (.memoryReadError (s.pc + BitVec.ofNat 16 k))) ∧
    (ReadsAnswered s s.pc (opcodeLength (s.byteAt s.pc)) →
      ∃ i, WellFormed i = true ∧ encode i = s.bytesFrom s.pc (opcodeLength (s.byteAt s.pc)) ∧
        step s = exec i (s.afterReads s.pc (opcodeLength (s.byteAt s.pc))))

/-- 60_exceptions.md R308: "While `fault != None` the core has no step", no instruction clears the latch, and the reset event
does. That the machine answers `Fault.latched` where the spec gives no step is the model's form of it: log 1. -/
def Obligations.LatchIsLeftOnlyByReset : Prop :=
  (∀ (n : Nat) (s : State) (r : Fatal), s.fault = some r → Sys2Proof.core.run (n + 1) s = .fault (Fault.latched r)) ∧
  (∀ (i : Instr) (s t : State), s.fault.isSome = true → exec i s = .next t → t.fault.isSome = true) ∧
  ∀ (s : State) (memAfter : Memory) (stateAfter : Nat), (s.resetEvent memAfter stateAfter).fault = none

/-- 10_state.md R21 and the canonical form of memory: every step from a state with the invariant leaves a state with it. -/
def Obligations.StepKeepsInvariant : Prop :=
  ∀ s t : State, Inv s → step s = .next t → Inv t

/-- The invariant holds after reset, after every power-on, and after the reset event over a canonical memory. -/
def Obligations.ResetHasInvariant : Prop :=
  Inv State.reset ∧
  (∀ (cart : List Byte) (collab : Collaborator) (collabState : Nat) (params : Params) (s : State),
    State.powerOn cart collab collabState params = some s → Inv s) ∧
  ∀ (u : State) (memAfter : Memory) (stateAfter : Nat), Memory.wf memAfter = true → Inv (u.resetEvent memAfter stateAfter)

/-- 00_scope.md R4, 20_memory.md R53: the collaborator and the parameters are arguments of the model; no step changes them. A
collaborator that is none of the state-dependent ones has no state of its own that a step could move. -/
def Obligations.StepNeverChangesArguments : Prop :=
  ∀ s t : State, step s = .next t →
    t.collab = s.collab ∧ t.params = s.params ∧
    ((∀ tag, s.collab ≠ .stateDependent tag) → t.collabState = s.collabState)

/-- 60_exceptions.md R302, R303, 20_memory.md R53 (decision D15): the permissive collaborator refuses nothing; the restricted
one refuses no read and exactly the writes below 0x8000; the one with fixed sets exactly the accesses of its sets. So a
step raises no memory error under the first, no read error under the second, and under the second a write error only
ever names an address below 0x8000. -/
def Obligations.NamedCollaboratorErrors : Prop :=
  ∀ s : State,
    (s.collab = .permissive → ∀ addr v, s.readFails addr = false ∧ s.writeFails addr v = false) ∧
    (s.collab = .restricted → ∀ addr v, s.readFails addr = false ∧ (s.writeFails addr v = true ↔ addr.toNat < 0x8000)) ∧
    (∀ reads writes, s.collab = .fixed reads writes → ∀ addr v,
      (s.readFails addr = true ↔ addr ∈ reads) ∧ (s.writeFails addr v = true ↔ addr ∈ writes)) ∧
    ∀ t, s.fault = none → step s = .next t →
      (s.collab = .permissive →
        ∀ addr v, t.fault ≠ some (.memoryReadError addr) ∧ t.fault ≠ some (.memoryWriteError addr v)) ∧
      (s.collab = .restricted →
        ∀ addr v, t.fault ≠ some (.memoryReadError addr) ∧
          (t.fault = some (.memoryWriteError addr v) → addr.toNat < 0x8000))

/-- 30_encoding.md R97, 40_primitives_dispatch.md R113, 10_state.md R25: an instruction that completes and is no control
transfer leaves `pc` past its bytes, modulo 0x10000. -/
def Obligations.PcGrowsByLength : Prop :=
  ∀ (i : Instr) (s t : State), WellFormed i = true → ¬ TransfersControl i → exec i s = .next t → t.fault = none →
    t.pc = s.pc + BitVec.ofNat 16 (encode i).length

/-- 10_state.md R26: an instruction that completes and is none of those R26 lists as writing SP leaves SP as it was. -/
def Obligations.SpMovedOnlyByItsInstructions : Prop :=
  ∀ (i : Instr) (s t : State), WellFormed i = true → ¬ WritesSp i → exec i s = .next t → t.fault = none → t.sp = s.sp

/-! ### The unimplemented opcodes and the prefix -/

/-- 47_misc_system.md R285: the eleven primary bytes with no instruction always raise `UnimplementedOpcode` with the byte
and its address, and change nothing else; the read of the byte moves nothing but the collaborator's own state. -/
def Obligations.IllegalOpcodesRaise : Prop :=
  ∀ p ∈ ([(0xD3, .illegalD3), (0xDB, .illegalDB), (0xDD, .illegalDD), (0xE3, .illegalE3), (0xE4, .illegalE4),
      (0xEB, .illegalEB), (0xEC, .illegalEC), (0xED, .illegalED), (0xF4, .illegalF4), (0xFC, .illegalFC),
      (0xFD, .illegalFD)] : List (Byte × Instr)),
    ∀ (s : State) (rest : List Byte),
      encode p.2 = [p.1] ∧ decode (p.1 :: rest) = .instr p.2 rest ∧ cycleReport p.2 s = none ∧
      exec p.2 s = .next { s with fault := some (.unimplementedOpcode p.1 s.pc) } ∧
      (s.fault = none → s.readFails s.pc = false → s.byteAt s.pc = p.1 →
        step s = .next { s.afterRead s.pc with fault := some (.unimplementedOpcode p.1 s.pc) })

/-- 47_misc_system.md R283, R284 (decision D5): `HALT` and `STOP` always raise `UnimplementedOpcode` and change nothing else;
of the step only the read of the first byte is made, so the second byte of `STOP` is not read. -/
def Obligations.HaltAndStopRaise : Prop :=
  ∀ p ∈ ([(0x76, .halt), (0x10, .stop)] : List (Byte × Instr)),
    ∀ (s : State) (rest : List Byte),
      encode p.2 = [p.1] ∧ decode (p.1 :: rest) = .instr p.2 rest ∧ cycleReport p.2 s = none ∧
      exec p.2 s = .next { s with fault := some (.unimplementedOpcode p.1 s.pc) } ∧
      (s.fault = none → s.readFails s.pc = false → s.byteAt s.pc = p.1 →
        step s = .next { s.afterRead s.pc with fault := some (.unimplementedOpcode p.1 s.pc) })

/-- 40_primitives_dispatch.md R112, 47_misc_system.md R286: the prefix byte selects the extended table and has no effect and
no cost of its own. The row of its own that the opcode table gives it is the model's reading: log 8. -/
def Obligations.PrefixPerformsExtended : Prop :=
  ∀ s : State,
    encode .prefixCb = [0xCB] ∧
    (s.readFails (s.pc + 1) = false →
      let u := s.afterRead (s.pc + 1)
      ∃ i t, encode i = [0xCB, s.byteAt (s.pc + 1)] ∧ exec i u = .next t ∧ exec .prefixCb s = .next t ∧
        cycleReport .prefixCb s = cycleReport i s ∧
        (u.readFails s.hl = false → (∀ v, (u.afterRead s.hl).writeFails s.hl v = false) →
          t.fault = s.fault ∧ t.pc = s.pc + 2)) ∧
    (s.readFails (s.pc + 1) = true → Raises .prefixCb s (.memoryReadError (s.pc + 1)))

/-! ### 8-bit loads (41_load_8bit.md) -/

/-- R130. -/
def Obligations.LdRegReg : Prop :=
  ∀ (dst src : Reg8) (s : State),
    Completes (.ldRegReg dst src) s [0x40 + 8 * regIndex dst + regIndex src] 4 fun t =>
      t.reg dst = s.reg src ∧ t.f = s.f ∧ Frame [dst] [] 1 s t

/-- R131: the address is the old HL. -/
def Obligations.LdRegAtHl : Prop :=
  ∀ (dst : Reg8) (s : State),
    Loads (.ldRegAtHl dst) s s.hl [0x46 + 8 * regIndex dst] 8 fun v t =>
      t.reg dst = v ∧ t.f = s.f ∧ Frame [dst] [] 1 s t

/-- R132. -/
def Obligations.LdAtHlReg : Prop :=
  ∀ (src : Reg8) (s : State),
    Stores (.ldAtHlReg src) s s.hl (s.reg src) [0x70 + regIndex src] 8 fun t =>
      t.f = s.f ∧ Frame [] [s.hl] 1 s t

/-- R133. -/
def Obligations.LdRegImm : Prop :=
  ∀ (dst : Reg8) (n : Byte) (s : State),
    Completes (.ldRegImm dst n) s [0x06 + 8 * regIndex dst, n] 8 fun t =>
      t.reg dst = n ∧ t.f = s.f ∧ Frame [dst] [] 2 s t

/-- R134; the spec supplies the instruction from general knowledge (D22). -/
def Obligations.LdAtHlImm : Prop :=
  ∀ (n : Byte) (s : State),
    Stores (.ldAtHlN n) s s.hl n [0x36, n] 12 fun t => t.f = s.f ∧ Frame [] [s.hl] 2 s t

/-- R135, R136, R139. -/
def Obligations.LoadAccumulator : Prop :=
  ∀ (s : State) (nn : Addr),
    (Loads .ldAAtBc s (s.pair .bc) [0x0A] 8 fun v t => t.a = v ∧ t.f = s.f ∧ Frame [.a] [] 1 s t) ∧
    (Loads .ldAAtDe s (s.pair .de) [0x1A] 8 fun v t => t.a = v ∧ t.f = s.f ∧ Frame [.a] [] 1 s t) ∧
    Loads (.ldAAtNn nn) s nn [0xFA, loByte nn, hiByte nn] 16 fun v t => t.a = v ∧ t.f = s.f ∧ Frame [.a] [] 3 s t

/-- R137, R138, R140. -/
def Obligations.StoreAccumulator : Prop :=
  ∀ (s : State) (nn : Addr),
    (Stores .ldAtBcA s (s.pair .bc) s.a [0x02] 8 fun t => t.f = s.f ∧ Frame [] [s.pair .bc] 1 s t) ∧
    (Stores .ldAtDeA s (s.pair .de) s.a [0x12] 8 fun t => t.f = s.f ∧ Frame [] [s.pair .de] 1 s t) ∧
    Stores (.ldAtNnA nn) s nn s.a [0xEA, loByte nn, hiByte nn] 16 fun t => t.f = s.f ∧ Frame [] [nn] 3 s t

/-- R142, R144: the access uses the old HL; HL steps after it, modulo 0x10000. -/
def Obligations.LoadAccumulatorStepHl : Prop :=
  ∀ s : State,
    (Loads .ldAAtHlInc s s.hl [0x2A] 8 fun v t =>
      t.a = v ∧ t.hl = s.hl + 1 ∧ t.f = s.f ∧ Frame [.a, .h, .l] [] 1 s t) ∧
    Loads .ldAAtHlDec s s.hl [0x3A] 8 fun v t =>
      t.a = v ∧ t.hl = s.hl - 1 ∧ t.f = s.f ∧ Frame [.a, .h, .l] [] 1 s t

/-- R141, R143: the store uses the old HL; HL steps after it, modulo 0x10000. -/
def Obligations.StoreAccumulatorStepHl : Prop :=
  ∀ s : State,
    (Stores .ldAtHlIncA s s.hl s.a [0x22] 8 fun t =>
      t.hl = s.hl + 1 ∧ t.f = s.f ∧ Frame [.h, .l] [s.hl] 1 s t) ∧
    Stores .ldAtHlDecA s s.hl s.a [0x32] 8 fun t =>
      t.hl = s.hl - 1 ∧ t.f = s.f ∧ Frame [.h, .l] [s.hl] 1 s t

/-- R146, R148, R149 (decisions D8, D20, D22): loads from 0xFF00 plus an offset; offset 0xFF raises `HighPageRange` unless
`LDH_ALLOW_FFFF` holds. -/
def Obligations.HighPageLoads : Prop :=
  ∀ (s : State) (off : Byte) (i : Instr) (code : List Byte) (cycles : Byte) (length : Addr),
    ((i = .ldhAAtN off ∧ code = [0xF0, off] ∧ cycles = 12 ∧ length = 2) ∨
      (i = .ldAAtC ∧ off = s.c ∧ code = [0xF2] ∧ cycles = 8 ∧ length = 1)) →
    (off ≠ 0xFF ∨ s.params.ldhAllowFFFF = true →
      Loads i s (0xFF00 + off.zeroExtend 16) code cycles fun v t => t.a = v ∧ t.f = s.f ∧ Frame [.a] [] length s t) ∧
    (off = 0xFF → s.params.ldhAllowFFFF = false → Raises i s (.highPageRange 0xFFFF))

/-- R145, R147, R149 (decisions D8, D20, D22): the stores. -/
def Obligations.HighPageStores : Prop :=
  ∀ (s : State) (off : Byte) (i : Instr) (code : List Byte) (cycles : Byte) (length : Addr),
    ((i = .ldhAtNA off ∧ code = [0xE0, off] ∧ cycles = 12 ∧ length = 2) ∨
      (i = .ldAtCA ∧ off = s.c ∧ code = [0xE2] ∧ cycles = 8 ∧ length = 1)) →
    (off ≠ 0xFF ∨ s.params.ldhAllowFFFF = true →
      Stores i s (0xFF00 + off.zeroExtend 16) s.a code cycles fun t =>
        t.f = s.f ∧ Frame [] [0xFF00 + off.zeroExtend 16] length s t) ∧
    (off = 0xFF → s.params.ldhAllowFFFF = false → Raises i s (.highPageRange 0xFFFF))

/-! ### 16-bit loads and the stack (42_load_16bit_stack.md) -/

/-- R160: a pair or SP takes the immediate, whose low byte comes first. -/
def Obligations.LdReg16Imm : Prop :=
  ∀ (rr : Reg16) (nn : Addr) (s : State),
    Completes (.ldReg16Imm rr nn) s [0x01 + 16 * reg16Index rr, loByte nn, hiByte nn] 12 fun t =>
      t.reg16 rr = nn ∧ t.f = s.f ∧ KeepsRegs (reg16Regs rr) s t ∧ KeepsMem [] s t ∧
        (rr ≠ .sp → t.sp = s.sp) ∧ t.pc = s.pc + 3

/-- R161 (D22): the low byte of SP at `nn`, the high byte at `nn +16 1`; the first access refused is the one reported. -/
def Obligations.LdAtNnSp : Prop :=
  ∀ (nn : Addr) (s : State),
    (s.writeFails nn (loByte s.sp) = false →
      (s.afterWrite nn (loByte s.sp)).writeFails (nn + 1) (hiByte s.sp) = false →
      CompletesWith ((s.afterWrite nn (loByte s.sp)).afterWrite (nn + 1) (hiByte s.sp)) (.ldAtNnSp nn) s
        [0x08, loByte nn, hiByte nn] 20 fun t =>
        t.byteAt nn = loByte s.sp ∧ t.byteAt (nn + 1) = hiByte s.sp ∧ t.f = s.f ∧ Frame [] [nn, nn + 1] 3 s t) ∧
    (s.writeFails nn (loByte s.sp) = true → Raises (.ldAtNnSp nn) s (.memoryWriteError nn (loByte s.sp))) ∧
    (s.writeFails nn (loByte s.sp) = false →
      (s.afterWrite nn (loByte s.sp)).writeFails (nn + 1) (hiByte s.sp) = true →
      Raises (.ldAtNnSp nn) s (.memoryWriteError (nn + 1) (hiByte s.sp)))

/-- R162, R163, 44_alu_16bit.md R223 (D22): `LD SP,HL`, `LD HL,SP+e` and `ADD SP,e`; the carries are those of the unsigned
addition of the low byte of SP and the raw byte. -/
def Obligations.StackPointerArithmetic : Prop :=
  ∀ (s : State) (e : Byte),
    (Completes .ldSpHl s [0xF9] 8 fun t =>
      t.sp = s.hl ∧ t.f = s.f ∧ KeepsRegs [] s t ∧ KeepsMem [] s t ∧ t.pc = s.pc + 1) ∧
    (Completes (.ldHlSpE e) s [0xF8, e] 12 fun t =>
      t.hl = BitVec.ofNat 16 (s.sp.toNat + sextNat e) ∧
        HasFlags t false false (decide (s.sp.toNat % 16 + e.toNat % 16 > 15)) (decide (s.sp.toNat % 256 + e.toNat > 255)) ∧
        Frame [.h, .l] [] 2 s t) ∧
    Completes (.addSpE e) s [0xE8, e] 16 fun t =>
      t.sp = BitVec.ofNat 16 (s.sp.toNat + sextNat e) ∧
        HasFlags t false false (decide (s.sp.toNat % 16 + e.toNat % 16 > 15)) (decide (s.sp.toNat % 256 + e.toNat > 255)) ∧
        KeepsRegs [] s t ∧ KeepsMem [] s t ∧ t.pc = s.pc + 2

/-- R164, 40_primitives_dispatch.md R119 (decision D6): the high byte at SP - 1, the low byte at SP - 2. -/
def Obligations.PushStoresPair : Prop :=
  ∀ (qq : Pair) (s : State),
    Pushes (.push qq) s (s.pair qq) [0xC5 + 16 * pairIndex qq] 16 (s.pc + 1)

/-- R165, R166: the pair takes the popped value; `POP AF` loads A, and F with its low nibble discarded. -/
def Obligations.PopLoadsPair : Prop :=
  ∀ (qq : Pair) (s : State),
    Pops (.pop qq) s [0xC1 + 16 * pairIndex qq] 12 fun v t =>
      t.pair qq = (if qq = .af then v &&& 0xFFF0 else v) ∧ (qq ≠ .af → t.f = s.f) ∧
        KeepsRegs (pairRegs qq) s t ∧ t.pc = s.pc + 1

/-- 40_primitives_dispatch.md R120, 42_load_16bit_stack.md R166: a pop after a push gives back the value and SP, in any pair. -/
def Obligations.PopAfterPush : Prop :=
  ∀ (qq qq' : Pair) (s t : State), exec (.push qq) s = .next t → t.fault = none →
    t.readFails t.sp = false → (t.afterRead t.sp).readFails (t.sp + 1) = false →
    ∃ u, exec (.pop qq') t = .next u ∧ u.fault = none ∧ u.sp = s.sp ∧
      u.pair qq' = (if qq' = .af then s.pair qq &&& 0xFFF0 else s.pair qq) ∧ KeepsRegs (pairRegs qq') s u ∧
      (qq' = .af → qq = .af → s.f &&& 0x0F = 0 → u.f = s.f)

/-! ### 8-bit arithmetic and logic (43_alu_8bit.md) -/

/-- R180, R182: the result wraps modulo 256, C stays. -/
def Obligations.IncDecReg : Prop :=
  ∀ (r : Reg8) (s : State),
    (Completes (.incReg r) s [0x04 + 8 * regIndex r] 4 fun t =>
      t.reg r = BitVec.ofNat 8 ((s.reg r).toNat + 1) ∧
        HasFlags t (decide (s.reg r = 0xFF)) false (decide ((s.reg r).toNat % 16 = 15)) s.flagC ∧ Frame [r] [] 1 s t) ∧
    Completes (.decReg r) s [0x05 + 8 * regIndex r] 4 fun t =>
      t.reg r = BitVec.ofNat 8 ((s.reg r).toNat + 255) ∧
        HasFlags t (decide (s.reg r = 0x01)) true (decide ((s.reg r).toNat % 16 = 0)) s.flagC ∧ Frame [r] [] 1 s t

/-- R181, R183: one read and one write of the same byte; C stays. -/
def Obligations.IncDecAtHl : Prop :=
  ∀ s : State,
    let old := s.byteAt s.hl
    (Updates .incAtHl s s.hl (BitVec.ofNat 8 (old.toNat + 1)) [0x34] 12 fun t =>
      HasFlags t (decide (old = 0xFF)) false (decide (old.toNat % 16 = 15)) s.flagC ∧ Frame [] [s.hl] 1 s t) ∧
    Updates .decAtHl s s.hl (BitVec.ofNat 8 (old.toNat + 255)) [0x35] 12 fun t =>
      HasFlags t (decide (old = 0x01)) true (decide (old.toNat % 16 = 0)) s.flagC ∧ Frame [] [s.hl] 1 s t

/-- R170, R171, R184 to R189 (decisions D12, D13): `ADD A` and `ADC A` with a register, the byte at HL and an immediate. -/
def Obligations.AddAndAdc : Prop :=
  ∀ (src : AluSource) (s : State),
    let a := s.a.toNat
    let v := (src.value s).toNat
    let cin := s.flagC.toNat
    AluCompletes .add src s (BitVec.ofNat 8 (a + v)) (decide ((a + v) % 256 = 0)) false
      (decide (a % 16 + v % 16 > 15)) (decide (a + v > 255)) ∧
    AluCompletes .adc src s (BitVec.ofNat 8 (a + v + cin)) (decide ((a + v + cin) % 256 = 0)) false
      (decide (a % 16 + v % 16 + cin > 15)) (decide (a + v + cin > 255))

/-- R172, R173, R177, R190 to R195, R205 to R207 (decisions D9, D13, D22): `SUB`, `SBC A` and `CP`, which keeps A. -/
def Obligations.SubSbcAndCp : Prop :=
  ∀ (src : AluSource) (s : State),
    let a := s.a.toNat
    let v := (src.value s).toNat
    let cin := s.flagC.toNat
    AluCompletes .sub src s (BitVec.ofNat 8 (a + 256 - v)) (decide (a = v)) true (decide (a % 16 < v % 16))
      (decide (a < v)) ∧
    AluCompletes .sbc src s (BitVec.ofNat 8 (a + 512 - v - cin)) (decide ((a + 512 - v - cin) % 256 = 0)) true
      (decide (a % 16 < v % 16 + cin)) (decide (a < v + cin)) ∧
    AluCompletes .cp src s s.a (decide (a = v)) true (decide (a % 16 < v % 16)) (decide (a < v))

/-- R174 to R176, R196 to R204 (decision D22): `AND` sets H, `XOR` and `OR` clear it; N and C are cleared. -/
def Obligations.AndXorAndOr : Prop :=
  ∀ (src : AluSource) (s : State),
    let v := src.value s
    AluCompletes .and src s (s.a &&& v) (decide (s.a &&& v = 0)) false true false ∧
    AluCompletes .xor src s (s.a ^^^ v) (decide (s.a = v)) false false false ∧
    AluCompletes .or src s (s.a ||| v) (decide (s.a = 0 ∧ v = 0)) false false false

/-- R208 (D22): both tests of the addition branch look at A before any adjustment; N stays, H is cleared. -/
def Obligations.DecimalAdjust : Prop :=
  ∀ s : State,
    let a := s.a.toNat
    let high := s.flagC || (!s.flagN && decide (a > 0x99))
    let low := s.flagH || (!s.flagN && decide (a % 16 > 9))
    let adj := (if low then 0x06 else 0) + (if high then 0x60 else 0)
    let r := if s.flagN then a + 256 - adj else a + adj
    Completes .daa s [0x27] 4 fun t =>
      t.a = BitVec.ofNat 8 r ∧ HasFlags t (decide (r % 256 = 0)) s.flagN false high ∧ Frame [.a] [] 1 s t

/-- R209 to R211 (D22): `CPL`, `SCF`, `CCF`; Z stays in all three. -/
def Obligations.ComplementAndCarryFlag : Prop :=
  ∀ s : State,
    (Completes .cpl s [0x2F] 4 fun t =>
      t.a = BitVec.ofNat 8 (255 - s.a.toNat) ∧ HasFlags t s.flagZ true true s.flagC ∧ Frame [.a] [] 1 s t) ∧
    (Completes .scf s [0x37] 4 fun t => HasFlags t s.flagZ false false true ∧ Frame [] [] 1 s t) ∧
    Completes .ccf s [0x3F] 4 fun t => HasFlags t s.flagZ false false (!s.flagC) ∧ Frame [] [] 1 s t

/-! ### 16-bit arithmetic (44_alu_16bit.md) -/

/-- R220, R221 (decision D12): modulo 65536, and F is not written. -/
def Obligations.IncDecReg16 : Prop :=
  ∀ (rr : Reg16) (s : State),
    (Completes (.incReg16 rr) s [0x03 + 16 * reg16Index rr] 8 fun t =>
      t.reg16 rr = s.reg16 rr + 1 ∧ t.f = s.f ∧ KeepsRegs (reg16Regs rr) s t ∧ KeepsMem [] s t ∧
        (rr ≠ .sp → t.sp = s.sp) ∧ t.pc = s.pc + 1) ∧
    Completes (.decReg16 rr) s [0x0B + 16 * reg16Index rr] 8 fun t =>
      t.reg16 rr = s.reg16 rr - 1 ∧ t.f = s.f ∧ KeepsRegs (reg16Regs rr) s t ∧ KeepsMem [] s t ∧
        (rr ≠ .sp → t.sp = s.sp) ∧ t.pc = s.pc + 1

/-- R222 (D22), 40_primitives_dispatch.md R108: H is the carry out of bit 11, C out of bit 15, Z stays. -/
def Obligations.AddHlReg16 : Prop :=
  ∀ (rr : Reg16) (s : State),
    let x := s.hl.toNat
    let y := (s.reg16 rr).toNat
    Completes (.addHlReg16 rr) s [0x09 + 16 * reg16Index rr] 8 fun t =>
      t.hl = BitVec.ofNat 16 (x + y) ∧
        HasFlags t s.flagZ false (decide (x % 4096 + y % 4096 > 4095)) (decide (x + y > 65535)) ∧
        Frame [.h, .l] [] 1 s t

/-! ### Rotates, shifts and bits (45_rotate_shift_bit.md) -/

/-- R230 to R233 (decisions D12, D22): the one-byte rotates of A clear Z, N and H. -/
def Obligations.AccumulatorRotates : Prop :=
  ∀ (s : State) (op : RotOp) (i : Instr) (code : Byte),
    (op, i, code) ∈ ([(.rlc, .rlca, 0x07), (.rrc, .rrca, 0x0F), (.rl, .rla, 0x17), (.rr, .rra, 0x1F)] :
      List (RotOp × Instr × Byte)) →
    Completes i s [code] 4 fun t =>
      t.a = BitVec.ofNat 8 (rotResult op s.a.toNat s.flagC.toNat) ∧
        HasFlags t false false false (rotCarry op s.a.toNat) ∧ Frame [.a] [] 1 s t

/-- R234 to R249, the register forms (decisions D12, D22). -/
def Obligations.RotateReg : Prop :=
  ∀ (op : RotOp) (r : Reg8) (s : State),
    let v := rotResult op (s.reg r).toNat s.flagC.toNat
    Completes (.rotReg op r) s [0xCB, 8 * rotIndex op + regIndex r] 8 fun t =>
      t.reg r = BitVec.ofNat 8 v ∧ HasFlags t (decide (v = 0)) false false (rotCarry op (s.reg r).toNat) ∧
        Frame [r] [] 2 s t

/-- R234 to R250, the forms on the byte at HL (decisions D12, D22). -/
def Obligations.RotateAtHl : Prop :=
  ∀ (op : RotOp) (s : State),
    let old := (s.byteAt s.hl).toNat
    let v := rotResult op old s.flagC.toNat
    Updates (.rotAtHl op) s s.hl (BitVec.ofNat 8 v) [0xCB, 0x06 + 8 * rotIndex op] 16 fun t =>
      HasFlags t (decide (v = 0)) false false (rotCarry op old) ∧ Frame [] [s.hl] 2 s t

/-- R251, R252 (D22): Z is the complement of the bit, C stays, neither the register nor memory is written. -/
def Obligations.BitTest : Prop :=
  ∀ (b : Fin 8) (s : State),
    (∀ r : Reg8, Completes (.bitReg b r) s [0xCB, 0x40 + 8 * bitIndex b + regIndex r] 8 fun t =>
      HasFlags t (decide ((s.reg r).toNat / 2 ^ b.val % 2 = 0)) false true s.flagC ∧ Frame [] [] 2 s t) ∧
    Loads (.bitAtHl b) s s.hl [0xCB, 0x46 + 8 * bitIndex b] 12 fun v t =>
      HasFlags t (decide (v.toNat / 2 ^ b.val % 2 = 0)) false true s.flagC ∧ Frame [] [] 2 s t

/-- R253, R255 (D22): one bit of a register becomes 0 or 1; F is not written. -/
def Obligations.ResetAndSetBitReg : Prop :=
  ∀ (b : Fin 8) (r : Reg8) (s : State),
    (Completes (.resReg b r) s [0xCB, 0x80 + 8 * bitIndex b + regIndex r] 8 fun t =>
      (∀ k < 8, (t.reg r).getLsbD k = (decide (k ≠ b.val) && (s.reg r).getLsbD k)) ∧ t.f = s.f ∧ Frame [r] [] 2 s t) ∧
    Completes (.setReg b r) s [0xCB, 0xC0 + 8 * bitIndex b + regIndex r] 8 fun t =>
      (∀ k < 8, (t.reg r).getLsbD k = (decide (k = b.val) || (s.reg r).getLsbD k)) ∧ t.f = s.f ∧ Frame [r] [] 2 s t

/-- R254, R256 (D22): one bit of the byte at HL becomes 0 or 1, by one read and one write; F is not written. -/
def Obligations.ResetAndSetBitAtHl : Prop :=
  ∀ (b : Fin 8) (s : State),
    let old := (s.byteAt s.hl).toNat
    let bit := old / 2 ^ b.val % 2
    (Updates (.resAtHl b) s s.hl (BitVec.ofNat 8 (old - bit * 2 ^ b.val)) [0xCB, 0x86 + 8 * bitIndex b] 16 fun t =>
      t.f = s.f ∧ Frame [] [s.hl] 2 s t) ∧
    Updates (.setAtHl b) s s.hl (BitVec.ofNat 8 (old + (1 - bit) * 2 ^ b.val)) [0xCB, 0xC6 + 8 * bitIndex b] 16 fun t =>
      t.f = s.f ∧ Frame [] [s.hl] 2 s t

/-! ### Control transfer (46_control_transfer.md) -/

/-- R265 to R267 (D22): the absolute jumps; not taken, `JP cc` leaves `pc` past its three bytes. -/
def Obligations.AbsoluteJumps : Prop :=
  ∀ (s : State) (nn : Addr),
    (Completes (.jpNn nn) s [0xC3, loByte nn, hiByte nn] 16 fun t =>
      t.pc = nn ∧ t.sp = s.sp ∧ t.f = s.f ∧ KeepsRegs [] s t ∧ KeepsMem [] s t) ∧
    (Completes .jpHl s [0xE9] 4 fun t =>
      t.pc = s.hl ∧ t.sp = s.sp ∧ t.f = s.f ∧ KeepsRegs [] s t ∧ KeepsMem [] s t) ∧
    ∀ cc : Cond,
      (CondHolds cc s → Completes (.jpCond cc nn) s [0xC2 + 8 * condIndex cc, loByte nn, hiByte nn] 16 fun t =>
        t.pc = nn ∧ t.sp = s.sp ∧ t.f = s.f ∧ KeepsRegs [] s t ∧ KeepsMem [] s t) ∧
      (¬ CondHolds cc s → Completes (.jpCond cc nn) s [0xC2 + 8 * condIndex cc, loByte nn, hiByte nn] 12 fun t =>
        t.f = s.f ∧ Frame [] [] 3 s t)

/-- R268, R269: the target is `pc0 +16 2 +16 sext_16(e)`. -/
def Obligations.RelativeJumps : Prop :=
  ∀ (s : State) (e : Byte),
    (Completes (.jrE e) s [0x18, e] 12 fun t =>
      t.pc = BitVec.ofNat 16 (s.pc.toNat + 2 + sextNat e) ∧ t.sp = s.sp ∧ t.f = s.f ∧ KeepsRegs [] s t ∧
        KeepsMem [] s t) ∧
    ∀ cc : Cond,
      (CondHolds cc s → Completes (.jrCond cc e) s [0x20 + 8 * condIndex cc, e] 12 fun t =>
        t.pc = BitVec.ofNat 16 (s.pc.toNat + 2 + sextNat e) ∧ t.sp = s.sp ∧ t.f = s.f ∧ KeepsRegs [] s t ∧
          KeepsMem [] s t) ∧
      (¬ CondHolds cc s → Completes (.jrCond cc e) s [0x20 + 8 * condIndex cc, e] 8 fun t =>
        t.f = s.f ∧ Frame [] [] 2 s t)

/-- R270, R271, R275, 40_primitives_dispatch.md R119 (decision D6): the return address is that of the following instruction. -/
def Obligations.CallsAndRestarts : Prop :=
  ∀ (s : State) (nn : Addr),
    Pushes (.callNn nn) s (s.pc + 3) [0xCD, loByte nn, hiByte nn] 24 nn ∧
    (∀ cc : Cond,
      (CondHolds cc s →
        Pushes (.callCond cc nn) s (s.pc + 3) [0xC4 + 8 * condIndex cc, loByte nn, hiByte nn] 24 nn) ∧
      (¬ CondHolds cc s → Completes (.callCond cc nn) s [0xC4 + 8 * condIndex cc, loByte nn, hiByte nn] 12 fun t =>
        t.f = s.f ∧ Frame [] [] 3 s t)) ∧
    ∀ y : Fin 8, Pushes (.rst y) s (s.pc + 1) [0xC7 + 8 * bitIndex y] 16 (BitVec.ofNat 16 (8 * y.val))

/-- R272, R273, 40_primitives_dispatch.md R120. -/
def Obligations.Returns : Prop :=
  ∀ s : State,
    (Pops .ret s [0xC9] 16 fun v t => t.pc = v ∧ t.f = s.f ∧ KeepsRegs [] s t) ∧
    ∀ cc : Cond,
      (CondHolds cc s →
        Pops (.retCond cc) s [0xC0 + 8 * condIndex cc] 20 fun v t => t.pc = v ∧ t.f = s.f ∧ KeepsRegs [] s t) ∧
      (¬ CondHolds cc s → Completes (.retCond cc) s [0xC0 + 8 * condIndex cc] 8 fun t =>
        t.f = s.f ∧ Frame [] [] 1 s t)

/-- R270: "a subsequent `ret()` must restore `pc` to the return address"; SP is restored with it. -/
def Obligations.ReturnAfterCall : Prop :=
  ∀ (s t : State) (i : Instr) (length : Addr),
    ((∃ nn, i = .callNn nn ∧ length = 3) ∨ (∃ cc nn, i = .callCond cc nn ∧ CondHolds cc s ∧ length = 3) ∨
      ∃ y, i = .rst y ∧ length = 1) →
    exec i s = .next t → t.fault = none → t.readFails t.sp = false → (t.afterRead t.sp).readFails (t.sp + 1) = false →
    ∃ u, exec .ret t = .next u ∧ u.fault = none ∧ u.pc = s.pc + length ∧ u.sp = s.sp ∧ u.f = s.f ∧ KeepsRegs [] s u

/-! ### System (47_misc_system.md) -/

/-- R281, R282, 46_control_transfer.md R274 (decisions D7, D14): `DI` and `EI` write their sentinel at `IE_ADDR` and do nothing
else; `RETI` returns first and then makes the write of `EI`. It holds for every value of the open parameters. -/
def Obligations.InterruptEnableWrites : Prop :=
  ∀ s : State,
    let ie := s.params.ieAddr
    let popped := (s.afterRead s.sp).afterRead (s.sp + 1)
    (Stores .di s ie s.params.diSentinel [0xF3] 4 fun t => t.f = s.f ∧ Frame [] [ie] 1 s t) ∧
    (Stores .ei s ie s.params.eiSentinel [0xFB] 4 fun t => t.f = s.f ∧ Frame [] [ie] 1 s t) ∧
    (s.readFails s.sp = false → (s.afterRead s.sp).readFails (s.sp + 1) = false →
      popped.writeFails ie s.params.eiSentinel = false →
      CompletesWith (popped.afterWrite ie s.params.eiSentinel) .reti s [0xD9] 16 fun t =>
        t.pc = joinBytes (s.byteAt (s.sp + 1)) (s.byteAt s.sp) ∧ t.sp = s.sp + 2 ∧
          t.byteAt ie = s.params.eiSentinel ∧ t.f = s.f ∧ KeepsRegs [] s t ∧ KeepsMem [ie] s t) ∧
    (s.readFails s.sp = true → Raises .reti s (.memoryReadError s.sp)) ∧
    (s.readFails s.sp = false → (s.afterRead s.sp).readFails (s.sp + 1) = true →
      Raises .reti s (.memoryReadError (s.sp + 1))) ∧
    (s.readFails s.sp = false → (s.afterRead s.sp).readFails (s.sp + 1) = false →
      popped.writeFails ie s.params.eiSentinel = true → Raises .reti s (.memoryWriteError ie s.params.eiSentinel))

/-- R280: "advances PC by 1, costs 4 cycles". -/
def Obligations.NoOperation : Prop :=
  ∀ s : State, Completes .nop s [0x00] 4 fun t => t = { s with pc := s.pc + 1 }
end

