-- ==== Sys2Proof/Laws/State.lean ====
section
/-! SUPPORT. One lemma per field per update of the state, so that no proof unfolds a record update. -/

namespace Sys2Proof.Machine

/-! ### advance -/

@[simp] theorem advance_a (s : State) (n : Addr) : (s.advance n).a = s.a := rfl
@[simp] theorem advance_f (s : State) (n : Addr) : (s.advance n).f = s.f := rfl
@[simp] theorem advance_b (s : State) (n : Addr) : (s.advance n).b = s.b := rfl
@[simp] theorem advance_c (s : State) (n : Addr) : (s.advance n).c = s.c := rfl
@[simp] theorem advance_d (s : State) (n : Addr) : (s.advance n).d = s.d := rfl
@[simp] theorem advance_e (s : State) (n : Addr) : (s.advance n).e = s.e := rfl
@[simp] theorem advance_h (s : State) (n : Addr) : (s.advance n).h = s.h := rfl
@[simp] theorem advance_l (s : State) (n : Addr) : (s.advance n).l = s.l := rfl
@[simp] theorem advance_sp (s : State) (n : Addr) : (s.advance n).sp = s.sp := rfl
@[simp] theorem advance_pc (s : State) (n : Addr) : (s.advance n).pc = s.pc + n := rfl
@[simp] theorem advance_fault (s : State) (n : Addr) : (s.advance n).fault = s.fault := rfl
@[simp] theorem advance_mem (s : State) (n : Addr) : (s.advance n).mem = s.mem := rfl
@[simp] theorem advance_collab (s : State) (n : Addr) : (s.advance n).collab = s.collab := rfl
@[simp] theorem advance_collabState (s : State) (n : Addr) : (s.advance n).collabState = s.collabState := rfl
@[simp] theorem advance_params (s : State) (n : Addr) : (s.advance n).params = s.params := rfl

@[simp] theorem advance_reg (s : State) (n : Addr) (r : Reg8) : (s.advance n).reg r = s.reg r := by cases r <;> rfl
@[simp] theorem advance_hl (s : State) (n : Addr) : (s.advance n).hl = s.hl := rfl
@[simp] theorem advance_pair (s : State) (n : Addr) (p : Pair) : (s.advance n).pair p = s.pair p := by cases p <;> rfl
@[simp] theorem advance_cond (s : State) (n : Addr) (cc : Cond) : (s.advance n).cond cc = s.cond cc := rfl
@[simp] theorem advance_flagZ (s : State) (n : Addr) : (s.advance n).flagZ = s.flagZ := rfl
@[simp] theorem advance_flagN (s : State) (n : Addr) : (s.advance n).flagN = s.flagN := rfl
@[simp] theorem advance_flagH (s : State) (n : Addr) : (s.advance n).flagH = s.flagH := rfl
@[simp] theorem advance_flagC (s : State) (n : Addr) : (s.advance n).flagC = s.flagC := rfl
@[simp] theorem advance_afterRead (s : State) (n : Addr) (y : Addr) : (s.advance n).afterRead y = (s.afterRead y).advance n := rfl
@[simp] theorem advance_afterWrite (s : State) (n : Addr) (y : Addr) (w : Byte) :
    (s.advance n).afterWrite y w = (s.afterWrite y w).advance n := rfl
@[simp] theorem advance_byteAt (s : State) (n : Addr) (y : Addr) : (s.advance n).byteAt y = s.byteAt y := rfl
@[simp] theorem advance_readFails (s : State) (n : Addr) (y : Addr) : (s.advance n).readFails y = s.readFails y := rfl
@[simp] theorem advance_writeFails (s : State) (n : Addr) (y : Addr) (w : Byte) : (s.advance n).writeFails y w = s.writeFails y w := rfl

/-! ### setPc -/

@[simp] theorem setPc_a (s : State) (v : Addr) : (s.setPc v).a = s.a := rfl
@[simp] theorem setPc_f (s : State) (v : Addr) : (s.setPc v).f = s.f := rfl
@[simp] theorem setPc_b (s : State) (v : Addr) : (s.setPc v).b = s.b := rfl
@[simp] theorem setPc_c (s : State) (v : Addr) : (s.setPc v).c = s.c := rfl
@[simp] theorem setPc_d (s : State) (v : Addr) : (s.setPc v).d = s.d := rfl
@[simp] theorem setPc_e (s : State) (v : Addr) : (s.setPc v).e = s.e := rfl
@[simp] theorem setPc_h (s : State) (v : Addr) : (s.setPc v).h = s.h := rfl
@[simp] theorem setPc_l (s : State) (v : Addr) : (s.setPc v).l = s.l := rfl
@[simp] theorem setPc_sp (s : State) (v : Addr) : (s.setPc v).sp = s.sp := rfl
@[simp] theorem setPc_pc (s : State) (v : Addr) : (s.setPc v).pc = v := rfl
@[simp] theorem setPc_fault (s : State) (v : Addr) : (s.setPc v).fault = s.fault := rfl
@[simp] theorem setPc_mem (s : State) (v : Addr) : (s.setPc v).mem = s.mem := rfl
@[simp] theorem setPc_collab (s : State) (v : Addr) : (s.setPc v).collab = s.collab := rfl
@[simp] theorem setPc_collabState (s : State) (v : Addr) : (s.setPc v).collabState = s.collabState := rfl
@[simp] theorem setPc_params (s : State) (v : Addr) : (s.setPc v).params = s.params := rfl

@[simp] theorem setPc_reg (s : State) (v : Addr) (r : Reg8) : (s.setPc v).reg r = s.reg r := by cases r <;> rfl
@[simp] theorem setPc_hl (s : State) (v : Addr) : (s.setPc v).hl = s.hl := rfl
@[simp] theorem setPc_pair (s : State) (v : Addr) (p : Pair) : (s.setPc v).pair p = s.pair p := by cases p <;> rfl
@[simp] theorem setPc_cond (s : State) (v : Addr) (cc : Cond) : (s.setPc v).cond cc = s.cond cc := rfl
@[simp] theorem setPc_flagZ (s : State) (v : Addr) : (s.setPc v).flagZ = s.flagZ := rfl
@[simp] theorem setPc_flagN (s : State) (v : Addr) : (s.setPc v).flagN = s.flagN := rfl
@[simp] theorem setPc_flagH (s : State) (v : Addr) : (s.setPc v).flagH = s.flagH := rfl
@[simp] theorem setPc_flagC (s : State) (v : Addr) : (s.setPc v).flagC = s.flagC := rfl
@[simp] theorem setPc_afterRead (s : State) (v : Addr) (y : Addr) : (s.setPc v).afterRead y = (s.afterRead y).setPc v := rfl
@[simp] theorem setPc_afterWrite (s : State) (v : Addr) (y : Addr) (w : Byte) :
    (s.setPc v).afterWrite y w = (s.afterWrite y w).setPc v := rfl
@[simp] theorem setPc_byteAt (s : State) (v : Addr) (y : Addr) : (s.setPc v).byteAt y = s.byteAt y := rfl
@[simp] theorem setPc_readFails (s : State) (v : Addr) (y : Addr) : (s.setPc v).readFails y = s.readFails y := rfl
@[simp] theorem setPc_writeFails (s : State) (v : Addr) (y : Addr) (w : Byte) : (s.setPc v).writeFails y w = s.writeFails y w := rfl

/-! ### setSp -/

@[simp] theorem setSp_a (s : State) (v : Addr) : (s.setSp v).a = s.a := rfl
@[simp] theorem setSp_f (s : State) (v : Addr) : (s.setSp v).f = s.f := rfl
@[simp] theorem setSp_b (s : State) (v : Addr) : (s.setSp v).b = s.b := rfl
@[simp] theorem setSp_c (s : State) (v : Addr) : (s.setSp v).c = s.c := rfl
@[simp] theorem setSp_d (s : State) (v : Addr) : (s.setSp v).d = s.d := rfl
@[simp] theorem setSp_e (s : State) (v : Addr) : (s.setSp v).e = s.e := rfl
@[simp] theorem setSp_h (s : State) (v : Addr) : (s.setSp v).h = s.h := rfl
@[simp] theorem setSp_l (s : State) (v : Addr) : (s.setSp v).l = s.l := rfl
@[simp] theorem setSp_sp (s : State) (v : Addr) : (s.setSp v).sp = v := rfl
@[simp] theorem setSp_pc (s : State) (v : Addr) : (s.setSp v).pc = s.pc := rfl
@[simp] theorem setSp_fault (s : State) (v : Addr) : (s.setSp v).fault = s.fault := rfl
@[simp] theorem setSp_mem (s : State) (v : Addr) : (s.setSp v).mem = s.mem := rfl
@[simp] theorem setSp_collab (s : State) (v : Addr) : (s.setSp v).collab = s.collab := rfl
@[simp] theorem setSp_collabState (s : State) (v : Addr) : (s.setSp v).collabState = s.collabState := rfl
@[simp] theorem setSp_params (s : State) (v : Addr) : (s.setSp v).params = s.params := rfl

@[simp] theorem setSp_reg (s : State) (v : Addr) (r : Reg8) : (s.setSp v).reg r = s.reg r := by cases r <;> rfl
@[simp] theorem setSp_hl (s : State) (v : Addr) : (s.setSp v).hl = s.hl := rfl
@[simp] theorem setSp_pair (s : State) (v : Addr) (p : Pair) : (s.setSp v).pair p = s.pair p := by cases p <;> rfl
@[simp] theorem setSp_cond (s : State) (v : Addr) (cc : Cond) : (s.setSp v).cond cc = s.cond cc := rfl
@[simp] theorem setSp_flagZ (s : State) (v : Addr) : (s.setSp v).flagZ = s.flagZ := rfl
@[simp] theorem setSp_flagN (s : State) (v : Addr) : (s.setSp v).flagN = s.flagN := rfl
@[simp] theorem setSp_flagH (s : State) (v : Addr) : (s.setSp v).flagH = s.flagH := rfl
@[simp] theorem setSp_flagC (s : State) (v : Addr) : (s.setSp v).flagC = s.flagC := rfl
@[simp] theorem setSp_afterRead (s : State) (v : Addr) (y : Addr) : (s.setSp v).afterRead y = (s.afterRead y).setSp v := rfl
@[simp] theorem setSp_afterWrite (s : State) (v : Addr) (y : Addr) (w : Byte) :
    (s.setSp v).afterWrite y w = (s.afterWrite y w).setSp v := rfl
@[simp] theorem setSp_byteAt (s : State) (v : Addr) (y : Addr) : (s.setSp v).byteAt y = s.byteAt y := rfl
@[simp] theorem setSp_readFails (s : State) (v : Addr) (y : Addr) : (s.setSp v).readFails y = s.readFails y := rfl
@[simp] theorem setSp_writeFails (s : State) (v : Addr) (y : Addr) (w : Byte) : (s.setSp v).writeFails y w = s.writeFails y w := rfl

/-! ### setByte -/

@[simp] theorem setByte_a (s : State) (x : Addr) (v : Byte) : (s.setByte x v).a = s.a := rfl
@[simp] theorem setByte_f (s : State) (x : Addr) (v : Byte) : (s.setByte x v).f = s.f := rfl
@[simp] theorem setByte_b (s : State) (x : Addr) (v : Byte) : (s.setByte x v).b = s.b := rfl
@[simp] theorem setByte_c (s : State) (x : Addr) (v : Byte) : (s.setByte x v).c = s.c := rfl
@[simp] theorem setByte_d (s : State) (x : Addr) (v : Byte) : (s.setByte x v).d = s.d := rfl
@[simp] theorem setByte_e (s : State) (x : Addr) (v : Byte) : (s.setByte x v).e = s.e := rfl
@[simp] theorem setByte_h (s : State) (x : Addr) (v : Byte) : (s.setByte x v).h = s.h := rfl
@[simp] theorem setByte_l (s : State) (x : Addr) (v : Byte) : (s.setByte x v).l = s.l := rfl
@[simp] theorem setByte_sp (s : State) (x : Addr) (v : Byte) : (s.setByte x v).sp = s.sp := rfl
@[simp] theorem setByte_pc (s : State) (x : Addr) (v : Byte) : (s.setByte x v).pc = s.pc := rfl
@[simp] theorem setByte_fault (s : State) (x : Addr) (v : Byte) : (s.setByte x v).fault = s.fault := rfl
@[simp] theorem setByte_mem (s : State) (x : Addr) (v : Byte) : (s.setByte x v).mem = s.mem.store x.toNat v := rfl
@[simp] theorem setByte_collab (s : State) (x : Addr) (v : Byte) : (s.setByte x v).collab = s.collab := rfl
@[simp] theorem setByte_collabState (s : State) (x : Addr) (v : Byte) : (s.setByte x v).collabState = s.collabState := rfl
@[simp] theorem setByte_params (s : State) (x : Addr) (v : Byte) : (s.setByte x v).params = s.params := rfl

@[simp] theorem setByte_reg (s : State) (x : Addr) (v : Byte) (r : Reg8) : (s.setByte x v).reg r = s.reg r := by cases r <;> rfl
@[simp] theorem setByte_hl (s : State) (x : Addr) (v : Byte) : (s.setByte x v).hl = s.hl := rfl
@[simp] theorem setByte_pair (s : State) (x : Addr) (v : Byte) (p : Pair) : (s.setByte x v).pair p = s.pair p := by cases p <;> rfl
@[simp] theorem setByte_cond (s : State) (x : Addr) (v : Byte) (cc : Cond) : (s.setByte x v).cond cc = s.cond cc := rfl
@[simp] theorem setByte_flagZ (s : State) (x : Addr) (v : Byte) : (s.setByte x v).flagZ = s.flagZ := rfl
@[simp] theorem setByte_flagN (s : State) (x : Addr) (v : Byte) : (s.setByte x v).flagN = s.flagN := rfl
@[simp] theorem setByte_flagH (s : State) (x : Addr) (v : Byte) : (s.setByte x v).flagH = s.flagH := rfl
@[simp] theorem setByte_flagC (s : State) (x : Addr) (v : Byte) : (s.setByte x v).flagC = s.flagC := rfl

/-! ### afterRead -/

@[simp] theorem afterRead_a (s : State) (x : Addr) : (s.afterRead x).a = s.a := rfl
@[simp] theorem afterRead_f (s : State) (x : Addr) : (s.afterRead x).f = s.f := rfl
@[simp] theorem afterRead_b (s : State) (x : Addr) : (s.afterRead x).b = s.b := rfl
@[simp] theorem afterRead_c (s : State) (x : Addr) : (s.afterRead x).c = s.c := rfl
@[simp] theorem afterRead_d (s : State) (x : Addr) : (s.afterRead x).d = s.d := rfl
@[simp] theorem afterRead_e (s : State) (x : Addr) : (s.afterRead x).e = s.e := rfl
@[simp] theorem afterRead_h (s : State) (x : Addr) : (s.afterRead x).h = s.h := rfl
@[simp] theorem afterRead_l (s : State) (x : Addr) : (s.afterRead x).l = s.l := rfl
@[simp] theorem afterRead_sp (s : State) (x : Addr) : (s.afterRead x).sp = s.sp := rfl
@[simp] theorem afterRead_pc (s : State) (x : Addr) : (s.afterRead x).pc = s.pc := rfl
@[simp] theorem afterRead_fault (s : State) (x : Addr) : (s.afterRead x).fault = s.fault := rfl
@[simp] theorem afterRead_mem (s : State) (x : Addr) : (s.afterRead x).mem = s.mem := rfl
@[simp] theorem afterRead_collab (s : State) (x : Addr) : (s.afterRead x).collab = s.collab := rfl
@[simp] theorem afterRead_params (s : State) (x : Addr) : (s.afterRead x).params = s.params := rfl

@[simp] theorem afterRead_reg (s : State) (x : Addr) (r : Reg8) : (s.afterRead x).reg r = s.reg r := by cases r <;> rfl
@[simp] theorem afterRead_hl (s : State) (x : Addr) : (s.afterRead x).hl = s.hl := rfl
@[simp] theorem afterRead_pair (s : State) (x : Addr) (p : Pair) : (s.afterRead x).pair p = s.pair p := by cases p <;> rfl
@[simp] theorem afterRead_cond (s : State) (x : Addr) (cc : Cond) : (s.afterRead x).cond cc = s.cond cc := rfl
@[simp] theorem afterRead_flagZ (s : State) (x : Addr) : (s.afterRead x).flagZ = s.flagZ := rfl
@[simp] theorem afterRead_flagN (s : State) (x : Addr) : (s.afterRead x).flagN = s.flagN := rfl
@[simp] theorem afterRead_flagH (s : State) (x : Addr) : (s.afterRead x).flagH = s.flagH := rfl
@[simp] theorem afterRead_flagC (s : State) (x : Addr) : (s.afterRead x).flagC = s.flagC := rfl
@[simp] theorem afterRead_byteAt (s : State) (x : Addr) (y : Addr) : (s.afterRead x).byteAt y = s.byteAt y := rfl

/-! ### afterWrite -/

@[simp] theorem afterWrite_a (s : State) (x : Addr) (v : Byte) : (s.afterWrite x v).a = s.a := rfl
@[simp] theorem afterWrite_f (s : State) (x : Addr) (v : Byte) : (s.afterWrite x v).f = s.f := rfl
@[simp] theorem afterWrite_b (s : State) (x : Addr) (v : Byte) : (s.afterWrite x v).b = s.b := rfl
@[simp] theorem afterWrite_c (s : State) (x : Addr) (v : Byte) : (s.afterWrite x v).c = s.c := rfl
@[simp] theorem afterWrite_d (s : State) (x : Addr) (v : Byte) : (s.afterWrite x v).d = s.d := rfl
@[simp] theorem afterWrite_e (s : State) (x : Addr) (v : Byte) : (s.afterWrite x v).e = s.e := rfl
@[simp] theorem afterWrite_h (s : State) (x : Addr) (v : Byte) : (s.afterWrite x v).h = s.h := rfl
@[simp] theorem afterWrite_l (s : State) (x : Addr) (v : Byte) : (s.afterWrite x v).l = s.l := rfl
@[simp] theorem afterWrite_sp (s : State) (x : Addr) (v : Byte) : (s.afterWrite x v).sp = s.sp := rfl
@[simp] theorem afterWrite_pc (s : State) (x : Addr) (v : Byte) : (s.afterWrite x v).pc = s.pc := rfl
@[simp] theorem afterWrite_fault (s : State) (x : Addr) (v : Byte) : (s.afterWrite x v).fault = s.fault := rfl
@[simp] theorem afterWrite_mem (s : State) (x : Addr) (v : Byte) : (s.afterWrite x v).mem = s.mem.store x.toNat v := rfl
@[simp] theorem afterWrite_collab (s : State) (x : Addr) (v : Byte) : (s.afterWrite x v).collab = s.collab := rfl
@[simp] theorem afterWrite_params (s : State) (x : Addr) (v : Byte) : (s.afterWrite x v).params = s.params := rfl

@[simp] theorem afterWrite_reg (s : State) (x : Addr) (v : Byte) (r : Reg8) : (s.afterWrite x v).reg r = s.reg r := by cases r <;> rfl
@[simp] theorem afterWrite_hl (s : State) (x : Addr) (v : Byte) : (s.afterWrite x v).hl = s.hl := rfl
@[simp] theorem afterWrite_pair (s : State) (x : Addr) (v : Byte) (p : Pair) : (s.afterWrite x v).pair p = s.pair p := by cases p <;> rfl
@[simp] theorem afterWrite_cond (s : State) (x : Addr) (v : Byte) (cc : Cond) : (s.afterWrite x v).cond cc = s.cond cc := rfl
@[simp] theorem afterWrite_flagZ (s : State) (x : Addr) (v : Byte) : (s.afterWrite x v).flagZ = s.flagZ := rfl
@[simp] theorem afterWrite_flagN (s : State) (x : Addr) (v : Byte) : (s.afterWrite x v).flagN = s.flagN := rfl
@[simp] theorem afterWrite_flagH (s : State) (x : Addr) (v : Byte) : (s.afterWrite x v).flagH = s.flagH := rfl
@[simp] theorem afterWrite_flagC (s : State) (x : Addr) (v : Byte) : (s.afterWrite x v).flagC = s.flagC := rfl

/-! ### setF -/

@[simp] theorem setF_a (s : State) (v : Byte) : (s.setF v).a = s.a := rfl
@[simp] theorem setF_f (s : State) (v : Byte) : (s.setF v).f = v &&& 0xF0 := rfl
@[simp] theorem setF_b (s : State) (v : Byte) : (s.setF v).b = s.b := rfl
@[simp] theorem setF_c (s : State) (v : Byte) : (s.setF v).c = s.c := rfl
@[simp] theorem setF_d (s : State) (v : Byte) : (s.setF v).d = s.d := rfl
@[simp] theorem setF_e (s : State) (v : Byte) : (s.setF v).e = s.e := rfl
@[simp] theorem setF_h (s : State) (v : Byte) : (s.setF v).h = s.h := rfl
@[simp] theorem setF_l (s : State) (v : Byte) : (s.setF v).l = s.l := rfl
@[simp] theorem setF_sp (s : State) (v : Byte) : (s.setF v).sp = s.sp := rfl
@[simp] theorem setF_pc (s : State) (v : Byte) : (s.setF v).pc = s.pc := rfl
@[simp] theorem setF_fault (s : State) (v : Byte) : (s.setF v).fault = s.fault := rfl
@[simp] theorem setF_mem (s : State) (v : Byte) : (s.setF v).mem = s.mem := rfl
@[simp] theorem setF_collab (s : State) (v : Byte) : (s.setF v).collab = s.collab := rfl
@[simp] theorem setF_collabState (s : State) (v : Byte) : (s.setF v).collabState = s.collabState := rfl
@[simp] theorem setF_params (s : State) (v : Byte) : (s.setF v).params = s.params := rfl

@[simp] theorem setF_reg (s : State) (v : Byte) (r : Reg8) : (s.setF v).reg r = s.reg r := by cases r <;> rfl
@[simp] theorem setF_hl (s : State) (v : Byte) : (s.setF v).hl = s.hl := rfl
@[simp] theorem setF_pair_bc (s : State) (v : Byte) : (s.setF v).pair .bc = s.pair .bc := rfl
@[simp] theorem setF_pair_de (s : State) (v : Byte) : (s.setF v).pair .de = s.pair .de := rfl
@[simp] theorem setF_pair_hl (s : State) (v : Byte) : (s.setF v).pair .hl = s.pair .hl := rfl
@[simp] theorem setF_afterRead (s : State) (v : Byte) (y : Addr) : (s.setF v).afterRead y = (s.afterRead y).setF v := rfl
@[simp] theorem setF_afterWrite (s : State) (v : Byte) (y : Addr) (w : Byte) :
    (s.setF v).afterWrite y w = (s.afterWrite y w).setF v := rfl
@[simp] theorem setF_byteAt (s : State) (v : Byte) (y : Addr) : (s.setF v).byteAt y = s.byteAt y := rfl
@[simp] theorem setF_readFails (s : State) (v : Byte) (y : Addr) : (s.setF v).readFails y = s.readFails y := rfl
@[simp] theorem setF_writeFails (s : State) (v : Byte) (y : Addr) (w : Byte) : (s.setF v).writeFails y w = s.writeFails y w := rfl

/-! ### setFlags -/

@[simp] theorem setFlags_a (s : State) (z n h c : Bool) : (s.setFlags z n h c).a = s.a := rfl
@[simp] theorem setFlags_f (s : State) (z n h c : Bool) : (s.setFlags z n h c).f = packFlags z n h c := rfl
@[simp] theorem setFlags_b (s : State) (z n h c : Bool) : (s.setFlags z n h c).b = s.b := rfl
@[simp] theorem setFlags_c (s : State) (z n h c : Bool) : (s.setFlags z n h c).c = s.c := rfl
@[simp] theorem setFlags_d (s : State) (z n h c : Bool) : (s.setFlags z n h c).d = s.d := rfl
@[simp] theorem setFlags_e (s : State) (z n h c : Bool) : (s.setFlags z n h c).e = s.e := rfl
@[simp] theorem setFlags_h (s : State) (z n h c : Bool) : (s.setFlags z n h c).h = s.h := rfl
@[simp] theorem setFlags_l (s : State) (z n h c : Bool) : (s.setFlags z n h c).l = s.l := rfl
@[simp] theorem setFlags_sp (s : State) (z n h c : Bool) : (s.setFlags z n h c).sp = s.sp := rfl
@[simp] theorem setFlags_pc (s : State) (z n h c : Bool) : (s.setFlags z n h c).pc = s.pc := rfl
@[simp] theorem setFlags_fault (s : State) (z n h c : Bool) : (s.setFlags z n h c).fault = s.fault := rfl
@[simp] theorem setFlags_mem (s : State) (z n h c : Bool) : (s.setFlags z n h c).mem = s.mem := rfl
@[simp] theorem setFlags_collab (s : State) (z n h c : Bool) : (s.setFlags z n h c).collab = s.collab := rfl
@[simp] theorem setFlags_collabState (s : State) (z n h c : Bool) : (s.setFlags z n h c).collabState = s.collabState := rfl
@[simp] theorem setFlags_params (s : State) (z n h c : Bool) : (s.setFlags z n h c).params = s.params := rfl

@[simp] theorem setFlags_reg (s : State) (z n h c : Bool) (r : Reg8) : (s.setFlags z n h c).reg r = s.reg r := by cases r <;> rfl
@[simp] theorem setFlags_hl (s : State) (z n h c : Bool) : (s.setFlags z n h c).hl = s.hl := rfl
@[simp] theorem setFlags_pair_bc (s : State) (z n h c : Bool) : (s.setFlags z n h c).pair .bc = s.pair .bc := rfl
@[simp] theorem setFlags_pair_de (s : State) (z n h c : Bool) : (s.setFlags z n h c).pair .de = s.pair .de := rfl
@[simp] theorem setFlags_pair_hl (s : State) (z n h c : Bool) : (s.setFlags z n h c).pair .hl = s.pair .hl := rfl
@[simp] theorem setFlags_afterRead (s : State) (z n h c : Bool) (y : Addr) : (s.setFlags z n h c).afterRead y = (s.afterRead y).setFlags z n h c := rfl
@[simp] theorem setFlags_afterWrite (s : State) (z n h c : Bool) (y : Addr) (w : Byte) :
    (s.setFlags z n h c).afterWrite y w = (s.afterWrite y w).setFlags z n h c := rfl
@[simp] theorem setFlags_byteAt (s : State) (z n h c : Bool) (y : Addr) : (s.setFlags z n h c).byteAt y = s.byteAt y := rfl
@[simp] theorem setFlags_readFails (s : State) (z n h c : Bool) (y : Addr) : (s.setFlags z n h c).readFails y = s.readFails y := rfl
@[simp] theorem setFlags_writeFails (s : State) (z n h c : Bool) (y : Addr) (w : Byte) : (s.setFlags z n h c).writeFails y w = s.writeFails y w := rfl

/-! ### putFlags -/

@[simp] theorem putFlags_a (s : State) (fl : Flags) : (s.putFlags fl).a = s.a := rfl
@[simp] theorem putFlags_f (s : State) (fl : Flags) : (s.putFlags fl).f = packFlags fl.z fl.n fl.h fl.c := rfl
@[simp] theorem putFlags_b (s : State) (fl : Flags) : (s.putFlags fl).b = s.b := rfl
@[simp] theorem putFlags_c (s : State) (fl : Flags) : (s.putFlags fl).c = s.c := rfl
@[simp] theorem putFlags_d (s : State) (fl : Flags) : (s.putFlags fl).d = s.d := rfl
@[simp] theorem putFlags_e (s : State) (fl : Flags) : (s.putFlags fl).e = s.e := rfl
@[simp] theorem putFlags_h (s : State) (fl : Flags) : (s.putFlags fl).h = s.h := rfl
@[simp] theorem putFlags_l (s : State) (fl : Flags) : (s.putFlags fl).l = s.l := rfl
@[simp] theorem putFlags_sp (s : State) (fl : Flags) : (s.putFlags fl).sp = s.sp := rfl
@[simp] theorem putFlags_pc (s : State) (fl : Flags) : (s.putFlags fl).pc = s.pc := rfl
@[simp] theorem putFlags_fault (s : State) (fl : Flags) : (s.putFlags fl).fault = s.fault := rfl
@[simp] theorem putFlags_mem (s : State) (fl : Flags) : (s.putFlags fl).mem = s.mem := rfl
@[simp] theorem putFlags_collab (s : State) (fl : Flags) : (s.putFlags fl).collab = s.collab := rfl
@[simp] theorem putFlags_collabState (s : State) (fl : Flags) : (s.putFlags fl).collabState = s.collabState := rfl
@[simp] theorem putFlags_params (s : State) (fl : Flags) : (s.putFlags fl).params = s.params := rfl

@[simp] theorem putFlags_reg (s : State) (fl : Flags) (r : Reg8) : (s.putFlags fl).reg r = s.reg r := by cases r <;> rfl
@[simp] theorem putFlags_hl (s : State) (fl : Flags) : (s.putFlags fl).hl = s.hl := rfl
@[simp] theorem putFlags_pair_bc (s : State) (fl : Flags) : (s.putFlags fl).pair .bc = s.pair .bc := rfl
@[simp] theorem putFlags_pair_de (s : State) (fl : Flags) : (s.putFlags fl).pair .de = s.pair .de := rfl
@[simp] theorem putFlags_pair_hl (s : State) (fl : Flags) : (s.putFlags fl).pair .hl = s.pair .hl := rfl
@[simp] theorem putFlags_afterRead (s : State) (fl : Flags) (y : Addr) : (s.putFlags fl).afterRead y = (s.afterRead y).putFlags fl := rfl
@[simp] theorem putFlags_afterWrite (s : State) (fl : Flags) (y : Addr) (w : Byte) :
    (s.putFlags fl).afterWrite y w = (s.afterWrite y w).putFlags fl := rfl
@[simp] theorem putFlags_byteAt (s : State) (fl : Flags) (y : Addr) : (s.putFlags fl).byteAt y = s.byteAt y := rfl
@[simp] theorem putFlags_readFails (s : State) (fl : Flags) (y : Addr) : (s.putFlags fl).readFails y = s.readFails y := rfl
@[simp] theorem putFlags_writeFails (s : State) (fl : Flags) (y : Addr) (w : Byte) : (s.putFlags fl).writeFails y w = s.writeFails y w := rfl

/-! ### setReg -/

@[simp] theorem setReg_f (s : State) (r : Reg8) (v : Byte) : (s.setReg r v).f = s.f := by cases r <;> rfl
@[simp] theorem setReg_sp (s : State) (r : Reg8) (v : Byte) : (s.setReg r v).sp = s.sp := by cases r <;> rfl
@[simp] theorem setReg_pc (s : State) (r : Reg8) (v : Byte) : (s.setReg r v).pc = s.pc := by cases r <;> rfl
@[simp] theorem setReg_fault (s : State) (r : Reg8) (v : Byte) : (s.setReg r v).fault = s.fault := by cases r <;> rfl
@[simp] theorem setReg_mem (s : State) (r : Reg8) (v : Byte) : (s.setReg r v).mem = s.mem := by cases r <;> rfl
@[simp] theorem setReg_collab (s : State) (r : Reg8) (v : Byte) : (s.setReg r v).collab = s.collab := by cases r <;> rfl
@[simp] theorem setReg_collabState (s : State) (r : Reg8) (v : Byte) : (s.setReg r v).collabState = s.collabState := by cases r <;> rfl
@[simp] theorem setReg_params (s : State) (r : Reg8) (v : Byte) : (s.setReg r v).params = s.params := by cases r <;> rfl
@[simp] theorem setReg_byteAt (s : State) (r : Reg8) (v : Byte) (y : Addr) : (s.setReg r v).byteAt y = s.byteAt y := by cases r <;> rfl
@[simp] theorem setReg_afterRead (s : State) (r : Reg8) (v : Byte) (y : Addr) : (s.setReg r v).afterRead y = (s.afterRead y).setReg r v := by
  cases r <;> rfl
@[simp] theorem setReg_afterWrite (s : State) (r : Reg8) (v : Byte) (y : Addr) (w : Byte) :
    (s.setReg r v).afterWrite y w = (s.afterWrite y w).setReg r v := by cases r <;> rfl
@[simp] theorem setReg_readFails (s : State) (r : Reg8) (v : Byte) (y : Addr) : (s.setReg r v).readFails y = s.readFails y := by
  cases r <;> rfl
@[simp] theorem setReg_writeFails (s : State) (r : Reg8) (v : Byte) (y : Addr) (w : Byte) :
    (s.setReg r v).writeFails y w = s.writeFails y w := by cases r <;> rfl
@[simp] theorem setReg_flagZ (s : State) (r : Reg8) (v : Byte) : (s.setReg r v).flagZ = s.flagZ := by simp [State.flagZ]
@[simp] theorem setReg_flagN (s : State) (r : Reg8) (v : Byte) : (s.setReg r v).flagN = s.flagN := by simp [State.flagN]
@[simp] theorem setReg_flagH (s : State) (r : Reg8) (v : Byte) : (s.setReg r v).flagH = s.flagH := by simp [State.flagH]
@[simp] theorem setReg_flagC (s : State) (r : Reg8) (v : Byte) : (s.setReg r v).flagC = s.flagC := by simp [State.flagC]

/-! ### setPair -/

@[simp] theorem setPair_sp (s : State) (p : Pair) (v : Addr) : (s.setPair p v).sp = s.sp := by cases p <;> rfl
@[simp] theorem setPair_pc (s : State) (p : Pair) (v : Addr) : (s.setPair p v).pc = s.pc := by cases p <;> rfl
@[simp] theorem setPair_fault (s : State) (p : Pair) (v : Addr) : (s.setPair p v).fault = s.fault := by cases p <;> rfl
@[simp] theorem setPair_mem (s : State) (p : Pair) (v : Addr) : (s.setPair p v).mem = s.mem := by cases p <;> rfl
@[simp] theorem setPair_collab (s : State) (p : Pair) (v : Addr) : (s.setPair p v).collab = s.collab := by cases p <;> rfl
@[simp] theorem setPair_collabState (s : State) (p : Pair) (v : Addr) : (s.setPair p v).collabState = s.collabState := by cases p <;> rfl
@[simp] theorem setPair_params (s : State) (p : Pair) (v : Addr) : (s.setPair p v).params = s.params := by cases p <;> rfl
@[simp] theorem setPair_byteAt (s : State) (p : Pair) (v : Addr) (y : Addr) : (s.setPair p v).byteAt y = s.byteAt y := by cases p <;> rfl
@[simp] theorem setPair_afterRead (s : State) (p : Pair) (v : Addr) (y : Addr) : (s.setPair p v).afterRead y = (s.afterRead y).setPair p v := by
  cases p <;> rfl
@[simp] theorem setPair_afterWrite (s : State) (p : Pair) (v : Addr) (y : Addr) (w : Byte) :
    (s.setPair p v).afterWrite y w = (s.afterWrite y w).setPair p v := by cases p <;> rfl
@[simp] theorem setPair_readFails (s : State) (p : Pair) (v : Addr) (y : Addr) : (s.setPair p v).readFails y = s.readFails y := by
  cases p <;> rfl
@[simp] theorem setPair_writeFails (s : State) (p : Pair) (v : Addr) (y : Addr) (w : Byte) :
    (s.setPair p v).writeFails y w = s.writeFails y w := by cases p <;> rfl

/-! ### setReg16 -/

@[simp] theorem setReg16_f (s : State) (rr : Reg16) (v : Addr) : (s.setReg16 rr v).f = s.f := by cases rr <;> rfl
@[simp] theorem setReg16_pc (s : State) (rr : Reg16) (v : Addr) : (s.setReg16 rr v).pc = s.pc := by cases rr <;> rfl
@[simp] theorem setReg16_fault (s : State) (rr : Reg16) (v : Addr) : (s.setReg16 rr v).fault = s.fault := by cases rr <;> rfl
@[simp] theorem setReg16_mem (s : State) (rr : Reg16) (v : Addr) : (s.setReg16 rr v).mem = s.mem := by cases rr <;> rfl
@[simp] theorem setReg16_collab (s : State) (rr : Reg16) (v : Addr) : (s.setReg16 rr v).collab = s.collab := by cases rr <;> rfl
@[simp] theorem setReg16_collabState (s : State) (rr : Reg16) (v : Addr) : (s.setReg16 rr v).collabState = s.collabState := by cases rr <;> rfl
@[simp] theorem setReg16_params (s : State) (rr : Reg16) (v : Addr) : (s.setReg16 rr v).params = s.params := by cases rr <;> rfl
@[simp] theorem setReg16_byteAt (s : State) (rr : Reg16) (v : Addr) (y : Addr) : (s.setReg16 rr v).byteAt y = s.byteAt y := by cases rr <;> rfl
@[simp] theorem setReg16_afterRead (s : State) (rr : Reg16) (v : Addr) (y : Addr) : (s.setReg16 rr v).afterRead y = (s.afterRead y).setReg16 rr v := by
  cases rr <;> rfl
@[simp] theorem setReg16_afterWrite (s : State) (rr : Reg16) (v : Addr) (y : Addr) (w : Byte) :
    (s.setReg16 rr v).afterWrite y w = (s.afterWrite y w).setReg16 rr v := by cases rr <;> rfl
@[simp] theorem setReg16_readFails (s : State) (rr : Reg16) (v : Addr) (y : Addr) : (s.setReg16 rr v).readFails y = s.readFails y := by
  cases rr <;> rfl
@[simp] theorem setReg16_writeFails (s : State) (rr : Reg16) (v : Addr) (y : Addr) (w : Byte) :
    (s.setReg16 rr v).writeFails y w = s.writeFails y w := by cases rr <;> rfl
@[simp] theorem setReg16_flagZ (s : State) (rr : Reg16) (v : Addr) : (s.setReg16 rr v).flagZ = s.flagZ := by simp [State.flagZ]
@[simp] theorem setReg16_flagN (s : State) (rr : Reg16) (v : Addr) : (s.setReg16 rr v).flagN = s.flagN := by simp [State.flagN]
@[simp] theorem setReg16_flagH (s : State) (rr : Reg16) (v : Addr) : (s.setReg16 rr v).flagH = s.flagH := by simp [State.flagH]
@[simp] theorem setReg16_flagC (s : State) (rr : Reg16) (v : Addr) : (s.setReg16 rr v).flagC = s.flagC := by simp [State.flagC]

/-! ### Reading back what was written -/

theorem setReg_reg (s : State) (r r' : Reg8) (v : Byte) :
    (s.setReg r v).reg r' = if r' = r then v else s.reg r' := by cases r <;> cases r' <;> rfl

@[simp] theorem setReg_reg_same (s : State) (r : Reg8) (v : Byte) : (s.setReg r v).reg r = v := by cases r <;> rfl

@[simp] theorem setReg_reg_other (s : State) (r r' : Reg8) (v : Byte) (hne : r' ≠ r) :
    (s.setReg r v).reg r' = s.reg r' := by simp [setReg_reg, hne]

@[simp] theorem reg_a (s : State) : s.reg .a = s.a := rfl

@[simp] theorem setReg_a (s : State) (v : Byte) : (s.setReg .a v).a = v := rfl

@[simp] theorem setPair_f_bc (s : State) (v : Addr) : (s.setPair .bc v).f = s.f := rfl

@[simp] theorem setPair_f_de (s : State) (v : Addr) : (s.setPair .de v).f = s.f := rfl

@[simp] theorem setPair_f_hl (s : State) (v : Addr) : (s.setPair .hl v).f = s.f := rfl

theorem setPair_reg_other (s : State) (p : Pair) (v : Addr) (r : Reg8)
    (hne : match p with
      | .af => r ≠ .a
      | .bc => r ≠ .b ∧ r ≠ .c
      | .de => r ≠ .d ∧ r ≠ .e
      | .hl => r ≠ .h ∧ r ≠ .l) : (s.setPair p v).reg r = s.reg r := by
  cases p <;> cases r <;> simp_all [State.setPair, State.reg, State.setF]

/-! ### Bytes and words -/

theorem join_getLsbD (hi lo : Byte) (k : Nat) :
    (joinBytes hi lo).getLsbD k = if k < 8 then lo.getLsbD k else hi.getLsbD (k - 8) :=
  BitVec.getLsbD_append

theorem hiByte_getLsbD (v : Addr) (k : Nat) : (hiByte v).getLsbD k = (decide (k < 8) && v.getLsbD (8 + k)) := by
  simp [hiByte]

theorem loByte_getLsbD (v : Addr) (k : Nat) : (loByte v).getLsbD k = (decide (k < 8) && v.getLsbD k) := by
  simp [loByte]

@[simp] theorem hiByte_join (hi lo : Byte) : hiByte (joinBytes hi lo) = hi := by
  apply BitVec.eq_of_getLsbD_eq
  intro k hk
  rw [hiByte_getLsbD, join_getLsbD]
  simp [hk]

@[simp] theorem loByte_join (hi lo : Byte) : loByte (joinBytes hi lo) = lo := by
  apply BitVec.eq_of_getLsbD_eq
  intro k hk
  rw [loByte_getLsbD, join_getLsbD]
  simp [hk]

@[simp] theorem join_hi_lo (v : Addr) : joinBytes (hiByte v) (loByte v) = v := by
  apply BitVec.eq_of_getLsbD_eq
  intro k hk
  rw [join_getLsbD, hiByte_getLsbD, loByte_getLsbD]
  by_cases h : k < 8
  · simp [h]
  · have e : 8 + (k - 8) = k := by omega
    have l : k - 8 < 8 := by omega
    simp [h, e, l]

/-- R23: the round trip of `BC`, `DE` and `HL`. -/
theorem setPair_pair (s : State) (p : Pair) (v : Addr) (hne : p ≠ .af) : (s.setPair p v).pair p = v := by
  cases p <;> first | exact absurd rfl hne | exact join_hi_lo v

@[simp] theorem setPair_hl (s : State) (v : Addr) : (s.setPair .hl v).hl = v := join_hi_lo v

/-- R23: the round trip of `AF`, with the low nibble of F masked to 0. -/
theorem setPair_pair_af (s : State) (v : Addr) : (s.setPair .af v).pair .af = v &&& 0xFFF0 := by
  have h : joinBytes (hiByte v) (loByte v &&& 0xF0) = v &&& 0xFFF0 := by
    apply BitVec.eq_of_getLsbD_eq
    intro k hk
    rw [join_getLsbD, hiByte_getLsbD, BitVec.getLsbD_and, BitVec.getLsbD_and, loByte_getLsbD]
    interval_cases k <;> simp
  exact h

theorem setReg16_reg16 (s : State) (rr : Reg16) (v : Addr) : (s.setReg16 rr v).reg16 rr = v := by
  cases rr <;> first | rfl | exact join_hi_lo v

/-! ### Flags -/

@[simp] theorem packFlags_z (z n h c : Bool) : (packFlags z n h c).getLsbD 7 = z := by
  cases z <;> cases n <;> cases h <;> cases c <;> rfl
@[simp] theorem packFlags_n (z n h c : Bool) : (packFlags z n h c).getLsbD 6 = n := by
  cases z <;> cases n <;> cases h <;> cases c <;> rfl
@[simp] theorem packFlags_h (z n h c : Bool) : (packFlags z n h c).getLsbD 5 = h := by
  cases z <;> cases n <;> cases h <;> cases c <;> rfl
@[simp] theorem packFlags_c (z n h c : Bool) : (packFlags z n h c).getLsbD 4 = c := by
  cases z <;> cases n <;> cases h <;> cases c <;> rfl
@[simp] theorem packFlags_low (z n h c : Bool) : packFlags z n h c &&& 0x0F = 0 := by
  cases z <;> cases n <;> cases h <;> cases c <;> rfl

@[simp] theorem maskF_low (v : Byte) : v &&& 0xF0 &&& 0x0F = 0 := by
  rw [BitVec.and_assoc]; simp

@[simp] theorem setFlags_flagZ (s : State) (z n h c : Bool) : (s.setFlags z n h c).flagZ = z := packFlags_z z n h c
@[simp] theorem setFlags_flagN (s : State) (z n h c : Bool) : (s.setFlags z n h c).flagN = n := packFlags_n z n h c
@[simp] theorem setFlags_flagH (s : State) (z n h c : Bool) : (s.setFlags z n h c).flagH = h := packFlags_h z n h c
@[simp] theorem setFlags_flagC (s : State) (z n h c : Bool) : (s.setFlags z n h c).flagC = c := packFlags_c z n h c

end Sys2Proof.Machine
end

