-- ==== Sys2Proof/Laws/Memory.lean ====
section
/-! SUPPORT. The store: a read after a write, and that every memory operation keeps the canonical form. -/

namespace Sys2Proof.Machine

/-! ### Read after write -/

theorem lookup_erase_same (m : Memory) (x : Nat) : (m.erase x).lookup x = unlistedByte := by
  induction m with
  | nil => rfl
  | cons p m ih =>
    obtain ⟨k, w⟩ := p
    by_cases h : k = x <;> simp [Memory.erase, Memory.lookup, h, ih]

theorem lookup_erase_other (m : Memory) (x y : Nat) (hne : y ≠ x) : (m.erase x).lookup y = m.lookup y := by
  induction m with
  | nil => rfl
  | cons p m ih =>
    obtain ⟨k, w⟩ := p
    by_cases h : k = x
    · have hy : ¬ x = y := fun e => hne e.symm
      simp [Memory.erase, Memory.lookup, h, hy, ih]
    · simp [Memory.erase, Memory.lookup, h, ih]

/-- Every address listed in `m` but `x` is out of the way of an insertion at `x`. -/
theorem lookup_insert_same (m : Memory) (x : Nat) (v : Byte) (h : ∀ w, (x, w) ∉ m) :
    (m.insert x v).lookup x = v := by
  induction m with
  | nil => simp [Memory.insert, Memory.lookup]
  | cons p m ih =>
    obtain ⟨k, w⟩ := p
    have hk : k ≠ x := fun e => h w (by simp [e])
    have hm : ∀ w, (x, w) ∉ m := fun w' hw => h w' (by simp [hw])
    by_cases hlt : x < k <;> simp [Memory.insert, Memory.lookup, hlt, hk, ih hm]

theorem lookup_insert_other (m : Memory) (x y : Nat) (v : Byte) (hne : y ≠ x) :
    (m.insert x v).lookup y = m.lookup y := by
  have hxy : ¬ x = y := fun e => hne e.symm
  induction m with
  | nil => simp [Memory.insert, Memory.lookup, hxy]
  | cons p m ih =>
    obtain ⟨k, w⟩ := p
    by_cases hlt : x < k <;> simp [Memory.insert, Memory.lookup, hlt, hxy, ih]

theorem not_mem_erase (m : Memory) (x : Nat) (w : Byte) : (x, w) ∉ m.erase x := by
  induction m with
  | nil => simp [Memory.erase]
  | cons p m ih =>
    obtain ⟨k, u⟩ := p
    by_cases h : k = x
    · simpa [Memory.erase, h] using ih
    · have hx : ¬ x = k := fun e => h e.symm
      simp [Memory.erase, h, hx, ih]

/-- A read after a write at the same address gives the value written (20_memory.md R65). -/
@[simp] theorem lookup_store_same (m : Memory) (x : Nat) (v : Byte) : (m.store x v).lookup x = v := by
  unfold Memory.store
  split
  · next h => rw [lookup_erase_same, h]
  · exact lookup_insert_same _ _ _ (not_mem_erase m x)

/-- A write leaves every other address alone. -/
theorem lookup_store_other (m : Memory) (x y : Nat) (v : Byte) (hne : y ≠ x) :
    (m.store x v).lookup y = m.lookup y := by
  unfold Memory.store
  split
  · exact lookup_erase_other m x y hne
  · rw [lookup_insert_other _ _ _ _ hne, lookup_erase_other m x y hne]

@[simp] theorem setByte_byteAt_same (s : State) (x : Addr) (v : Byte) : (s.setByte x v).byteAt x = v :=
  lookup_store_same _ _ _

theorem setByte_byteAt_other (s : State) (x y : Addr) (v : Byte) (hne : y ≠ x) :
    (s.setByte x v).byteAt y = s.byteAt y :=
  lookup_store_other _ _ _ _ fun h => hne (BitVec.eq_of_toNat_eq h)

@[simp] theorem afterWrite_byteAt_same (s : State) (x : Addr) (v : Byte) : (s.afterWrite x v).byteAt x = v :=
  lookup_store_same _ _ _

theorem afterWrite_byteAt_other (s : State) (x y : Addr) (v : Byte) (hne : y ≠ x) :
    (s.afterWrite x v).byteAt y = s.byteAt y :=
  setByte_byteAt_other s x y v hne

/-! ### The canonical form -/

theorem wfFrom_le {lo lo' : Nat} (h : lo' ≤ lo) (m : Memory) (hm : Memory.wfFrom lo m = true) :
    Memory.wfFrom lo' m = true := by
  cases m with
  | nil => rfl
  | cons p m =>
    obtain ⟨k, w⟩ := p
    simp only [Memory.wfFrom, Bool.and_eq_true, decide_eq_true_eq] at hm ⊢
    exact ⟨⟨⟨by omega, hm.1.1.2⟩, hm.1.2⟩, hm.2⟩

theorem wfFrom_erase (m : Memory) (lo x : Nat) (hm : Memory.wfFrom lo m = true) :
    Memory.wfFrom lo (m.erase x) = true := by
  induction m generalizing lo with
  | nil => rfl
  | cons p m ih =>
    obtain ⟨k, w⟩ := p
    simp only [Memory.wfFrom, Bool.and_eq_true, decide_eq_true_eq] at hm
    have ht := ih (k + 1) hm.2
    by_cases h : k = x
    · simp only [Memory.erase, if_pos h]
      exact wfFrom_le (by omega) _ ht
    · simp only [Memory.erase, if_neg h, Memory.wfFrom, Bool.and_eq_true, decide_eq_true_eq]
      exact ⟨hm.1, ht⟩

theorem wfFrom_insert (m : Memory) (lo x : Nat) (v : Byte) (hx : x < 65536) (hlo : lo ≤ x) (hv : v ≠ unlistedByte)
    (habs : ∀ w, (x, w) ∉ m) (hm : Memory.wfFrom lo m = true) : Memory.wfFrom lo (m.insert x v) = true := by
  induction m generalizing lo with
  | nil => simp [Memory.insert, Memory.wfFrom, hx, hlo, hv]
  | cons p m ih =>
    obtain ⟨k, w⟩ := p
    simp only [Memory.wfFrom, Bool.and_eq_true, decide_eq_true_eq] at hm
    have hk : k ≠ x := fun e => habs w (by simp [e])
    by_cases hlt : x < k
    · simp only [Memory.insert, if_pos hlt, Memory.wfFrom, Bool.and_eq_true, decide_eq_true_eq]
      exact ⟨⟨⟨hlo, hx⟩, hv⟩, ⟨⟨⟨by omega, hm.1.1.2⟩, hm.1.2⟩, hm.2⟩⟩
    · simp only [Memory.insert, if_neg hlt, Memory.wfFrom, Bool.and_eq_true, decide_eq_true_eq]
      exact ⟨hm.1, ih (k + 1) (by omega) (fun w' hw => habs w' (by simp [hw])) hm.2⟩

/-- Every store keeps the canonical form. -/
theorem wf_store (m : Memory) (x : Nat) (v : Byte) (hx : x < 65536) (hm : m.wf = true) : (m.store x v).wf = true := by
  unfold Memory.store
  split
  · exact wfFrom_erase m 0 x hm
  · next hv => exact wfFrom_insert _ 0 x v hx (Nat.zero_le _) hv (not_mem_erase m x) (wfFrom_erase m 0 x hm)

theorem wf_load (vs : List Byte) (m : Memory) (x : Nat) (hx : x + vs.length ≤ 65536) (hm : m.wf = true) :
    (m.load x vs).wf = true := by
  induction vs generalizing m x with
  | nil => exact hm
  | cons v vs ih =>
    simp only [List.length_cons] at hx
    exact ih _ _ (by omega) (wf_store m x v (by omega) hm)

theorem wf_setByte (s : State) (x : Addr) (v : Byte) (hm : s.mem.wf = true) : (s.setByte x v).mem.wf = true :=
  wf_store _ _ _ x.isLt hm

theorem wf_afterWrite (s : State) (x : Addr) (v : Byte) (hm : s.mem.wf = true) : (s.afterWrite x v).mem.wf = true :=
  wf_store _ _ _ x.isLt hm

theorem wf_reset : State.reset.mem.wf = true := rfl

theorem wf_powerOn (cart : List Byte) (collab : Collaborator) (state : Nat) (params : Params) (s : State)
    (h : State.powerOn cart collab state params = some s) : s.mem.wf = true := by
  unfold State.powerOn at h
  split at h
  · next hl =>
    cases h
    exact wf_load cart [] 0 (by omega) rfl
  · cases h

/-- Canonical memories that read alike everywhere are equal data. -/
theorem wf_ext (m m' : Memory) (lo : Nat) (hm : Memory.wfFrom lo m = true) (hm' : Memory.wfFrom lo m' = true)
    (h : ∀ x, m.lookup x = m'.lookup x) : m = m' := by
  have low : ∀ (n : Memory) (b x : Nat), Memory.wfFrom b n = true → x < b → n.lookup x = unlistedByte := by
    intro n
    induction n with
    | nil => intros; rfl
    | cons p n ih =>
      obtain ⟨k, w⟩ := p
      intro b x hw hx
      simp only [Memory.wfFrom, Bool.and_eq_true, decide_eq_true_eq] at hw
      have hk : ¬ k = x := by omega
      simp only [Memory.lookup, if_neg hk]
      exact ih (k + 1) x hw.2 (by omega)
  induction m generalizing m' lo with
  | nil =>
    cases m' with
    | nil => rfl
    | cons p m' =>
      obtain ⟨k, w⟩ := p
      simp only [Memory.wfFrom, Bool.and_eq_true, decide_eq_true_eq] at hm'
      have := h k
      simp only [Memory.lookup, if_pos] at this
      exact absurd this.symm hm'.1.2
  | cons p m ih =>
    obtain ⟨k, w⟩ := p
    simp only [Memory.wfFrom, Bool.and_eq_true, decide_eq_true_eq] at hm
    cases m' with
    | nil =>
      have := h k
      simp only [Memory.lookup, if_pos] at this
      exact absurd this hm.1.2
    | cons p' m' =>
      obtain ⟨k', w'⟩ := p'
      simp only [Memory.wfFrom, Bool.and_eq_true, decide_eq_true_eq] at hm'
      have hkk : k = k' := by
        rcases Nat.lt_trichotomy k k' with hlt | heq | hgt
        · have h1 := h k
          have hne : ¬ k' = k := by omega
          simp only [Memory.lookup, if_pos, if_neg hne] at h1
          rw [low m' (k' + 1) k hm'.2 (by omega)] at h1
          exact absurd h1 hm.1.2
        · exact heq
        · have h1 := h k'
          have hne : ¬ k = k' := by omega
          simp only [Memory.lookup, if_pos, if_neg hne] at h1
          rw [low m (k + 1) k' hm.2 (by omega)] at h1
          exact absurd h1.symm hm'.1.2
      subst hkk
      have hw : w = w' := by simpa [Memory.lookup] using h k
      subst hw
      have htail : ∀ x, Memory.lookup m x = Memory.lookup m' x := by
        intro x
        by_cases hx : k = x
        · subst hx
          rw [low m (k + 1) k hm.2 (by omega), low m' (k + 1) k hm'.2 (by omega)]
        · simpa [Memory.lookup, hx] using h x
      rw [ih m' (k + 1) hm.2 hm'.2 htail]

end Sys2Proof.Machine
end

