-- ==== Sys2Proof/Laws/Ops.lean ====
section
/-! SUPPORT. What each shared operation can do: the byte accesses, the two-byte accesses, the stack, the high-page
address. `_ok` and `_fails` say what it answers; `_all` says once what every answer of it satisfies. -/

namespace Sys2Proof.Machine

/-! ### Every next state of a result -/

/-- Every next state `res` can be satisfies `Q`, and `res` is a next state. -/
def Result.All (Q : State → Prop) (res : Result) : Prop := ∃ t, res = .next t ∧ Q t

theorem all_next {Q : State → Prop} {t : State} (h : Q t) : Result.All Q (.next t) := ⟨t, rfl, h⟩

theorem all_mono {Q Q' : State → Prop} {res : Result} (h : Result.All Q res) (hq : ∀ t, Q t → Q' t) :
    Result.All Q' res :=
  let ⟨t, e, q⟩ := h
  ⟨t, e, hq t q⟩

theorem all_of_next {Q : State → Prop} {res : Result} {t : State} (h : Result.All Q res) (e : res = .next t) : Q t := by
  obtain ⟨u, e', q⟩ := h
  rw [e] at e'
  cases e'
  exact q

/-! ### Byte accesses -/

theorem readByte_ok {x : Addr} {s : State} {k : Byte → State → Result} (h : s.readFails x = false) :
    readByte x s k = k (s.byteAt x) (s.afterRead x) := by simp [readByte, h]

theorem readByte_fails {x : Addr} {s : State} {k : Byte → State → Result} (h : s.readFails x = true) :
    readByte x s k = raise (.memoryReadError x) (s.afterRead x) := by simp [readByte, h]

theorem writeByte_ok {x : Addr} {v : Byte} {s : State} {k : State → Result} (h : s.writeFails x v = false) :
    writeByte x v s k = k (s.afterWrite x v) := by simp [writeByte, h]

theorem writeByte_fails {x : Addr} {v : Byte} {s : State} {k : State → Result} (h : s.writeFails x v = true) :
    writeByte x v s k = raise (.memoryWriteError x v)
      ((s.afterWrite x v).setByte x (Config.cellAfterFailedWrite s.collab s.collabState s.mem x.toNat v)) := by
  simp [writeByte, h]

theorem readByte_all {Q : State → Prop} {x : Addr} {s : State} {k : Byte → State → Result}
    (hf : s.readFails x = true → Q { s.afterRead x with fault := some (.memoryReadError x) })
    (hk : s.readFails x = false → Result.All Q (k (s.byteAt x) (s.afterRead x))) : Result.All Q (readByte x s k) := by
  cases h : s.readFails x
  · rw [readByte_ok h]
    exact hk h
  · rw [readByte_fails h]
    exact ⟨_, rfl, hf h⟩

theorem writeByte_all {Q : State → Prop} {x : Addr} {v : Byte} {s : State} {k : State → Result}
    (hf : s.writeFails x v = true →
      ∀ w, Q { (s.afterWrite x v).setByte x w with fault := some (.memoryWriteError x v) })
    (hk : s.writeFails x v = false → Result.All Q (k (s.afterWrite x v))) : Result.All Q (writeByte x v s k) := by
  cases h : s.writeFails x v
  · rw [writeByte_ok h]
    exact hk h
  · rw [writeByte_fails h]
    exact ⟨_, rfl, hf h _⟩

/-- The two named collaborators and the fixed one keep no state (20_memory.md R53). -/
theorem afterRead_collabState {s : State} (x : Addr) (h : ∀ tag, s.collab ≠ .stateDependent tag) :
    (s.afterRead x).collabState = s.collabState := by
  unfold State.afterRead
  cases hc : s.collab with
  | stateDependent tag => exact absurd hc (h tag)
  | _ => rfl

theorem afterWrite_collabState {s : State} (x : Addr) (v : Byte) (h : ∀ tag, s.collab ≠ .stateDependent tag) :
    (s.afterWrite x v).collabState = s.collabState := by
  unfold State.afterWrite
  cases hc : s.collab with
  | stateDependent tag => exact absurd hc (h tag)
  | _ => rfl

/-! ### The high page -/

theorem highAddr_ok {off : Byte} {s : State} {k : Addr → Result} (h : s.highPageAllowed off = true) :
    highAddr off s k = k (highPage off) := by simp [highAddr, h]

theorem highAddr_fails {off : Byte} {s : State} {k : Addr → Result} (h : s.highPageAllowed off = false) :
    highAddr off s k = raise (.highPageRange 0xFFFF) s := by simp [highAddr, h]

theorem highAddr_all {Q : State → Prop} {off : Byte} {s : State} {k : Addr → Result}
    (hf : s.highPageAllowed off = false → Q { s with fault := some (.highPageRange 0xFFFF) })
    (hk : s.highPageAllowed off = true → Result.All Q (k (highPage off))) : Result.All Q (highAddr off s k) := by
  cases h : s.highPageAllowed off
  · rw [highAddr_fails h]
    exact ⟨_, rfl, hf h⟩
  · rw [highAddr_ok h]
    exact hk h

/-! ### Two-byte accesses and the stack -/

theorem sub_one_sub_one (v : Addr) : v - 1 - 1 = v - 2 := by bv_omega

theorem add_one_add_one (v : Addr) : v + 1 + 1 = v + 2 := by rw [BitVec.add_assoc]; rfl

theorem writeWord_ok {x v : Addr} {s : State} {k : State → Result} (hlo : s.writeFails x (loByte v) = false)
    (hhi : (s.afterWrite x (loByte v)).writeFails (x + 1) (hiByte v) = false) :
    writeWord x v s k = k ((s.afterWrite x (loByte v)).afterWrite (x + 1) (hiByte v)) := by
  unfold writeWord
  rw [writeByte_ok hlo, writeByte_ok hhi]

theorem push16_ok {v : Addr} {s : State} {k : State → Result} (hhi : s.writeFails (s.sp - 1) (hiByte v) = false)
    (hlo : (s.afterWrite (s.sp - 1) (hiByte v)).writeFails (s.sp - 2) (loByte v) = false) :
    push16 v s k =
      k (((s.afterWrite (s.sp - 1) (hiByte v)).afterWrite (s.sp - 2) (loByte v)).setSp (s.sp - 2)) := by
  unfold push16
  rw [writeByte_ok (by simpa using hhi)]
  simp only [setSp_sp, setSp_afterWrite, sub_one_sub_one]
  rw [writeByte_ok (by simpa using hlo)]
  rfl

theorem push16_fails_hi {v : Addr} {s : State} {k : State → Result}
    (hhi : s.writeFails (s.sp - 1) (hiByte v) = true) :
    ∃ t, push16 v s k = .next t ∧ t.fault = some (.memoryWriteError (s.sp - 1) (hiByte v)) := by
  unfold push16
  rw [writeByte_fails (by simpa using hhi)]
  exact ⟨_, rfl, rfl⟩

theorem push16_fails_lo {v : Addr} {s : State} {k : State → Result}
    (hhi : s.writeFails (s.sp - 1) (hiByte v) = false)
    (hlo : (s.afterWrite (s.sp - 1) (hiByte v)).writeFails (s.sp - 2) (loByte v) = true) :
    ∃ t, push16 v s k = .next t ∧ t.fault = some (.memoryWriteError (s.sp - 2) (loByte v)) := by
  unfold push16
  rw [writeByte_ok (by simpa using hhi)]
  simp only [setSp_sp, setSp_afterWrite, sub_one_sub_one]
  rw [writeByte_fails (by simpa using hlo)]
  exact ⟨_, rfl, rfl⟩

theorem pop16_ok {s : State} {k : Addr → State → Result} (hlo : s.readFails s.sp = false)
    (hhi : (s.afterRead s.sp).readFails (s.sp + 1) = false) :
    pop16 s k = k (joinBytes (s.byteAt (s.sp + 1)) (s.byteAt s.sp))
      (((s.afterRead s.sp).afterRead (s.sp + 1)).setSp (s.sp + 2)) := by
  unfold pop16
  rw [readByte_ok hlo]
  simp only [setSp_sp, afterRead_sp]
  rw [readByte_ok (by simpa using hhi)]
  simp only [setSp_byteAt, afterRead_byteAt, setSp_afterRead, setSp_sp, add_one_add_one]
  rfl

theorem pop16_fails_lo {s : State} {k : Addr → State → Result} (hlo : s.readFails s.sp = true) :
    ∃ t, pop16 s k = .next t ∧ t.fault = some (.memoryReadError s.sp) := by
  unfold pop16
  rw [readByte_fails hlo]
  exact ⟨_, rfl, rfl⟩

theorem pop16_fails_hi {s : State} {k : Addr → State → Result} (hlo : s.readFails s.sp = false)
    (hhi : (s.afterRead s.sp).readFails (s.sp + 1) = true) :
    ∃ t, pop16 s k = .next t ∧ t.fault = some (.memoryReadError (s.sp + 1)) := by
  unfold pop16
  rw [readByte_ok hlo]
  simp only [setSp_sp, afterRead_sp]
  rw [readByte_fails (by simpa using hhi)]
  exact ⟨_, rfl, rfl⟩

end Sys2Proof.Machine
end

