-- ==== Sys2Proof/Laws/Families.lean ====
section
/-! SUPPORT. The instructions by family: case analysis over `Instr` that names a family once for all its operands, and for
each family its meaning, its bytes and its cycle count. -/

namespace Sys2Proof
open Sys2Proof.Machine

/-! ### Case analysis -/

/-- A property of every family and of every instruction that stands alone holds of every instruction. -/
theorem Instr.byFamily {P : Instr → Prop}
    (nop : P .nop)
    (ldReg16Imm : ∀ (rr : Reg16) (nn : Addr), P (.ldReg16Imm rr nn))
    (ldAtBcA : P .ldAtBcA)
    (incReg16 : ∀ (rr : Reg16), P (.incReg16 rr))
    (incReg : ∀ (r : Reg8), P (.incReg r))
    (decReg : ∀ (r : Reg8), P (.decReg r))
    (ldRegImm : ∀ (r : Reg8) (n : Byte), P (.ldRegImm r n))
    (rlca : P .rlca)
    (ldAtNnSp : ∀ nn : Addr, P (.ldAtNnSp nn))
    (addHlReg16 : ∀ (rr : Reg16), P (.addHlReg16 rr))
    (ldAAtBc : P .ldAAtBc)
    (decReg16 : ∀ (rr : Reg16), P (.decReg16 rr))
    (rrca : P .rrca)
    (stop : P .stop)
    (ldAtDeA : P .ldAtDeA)
    (rla : P .rla)
    (jrE : ∀ e : Byte, P (.jrE e))
    (ldAAtDe : P .ldAAtDe)
    (rra : P .rra)
    (jrCond : ∀ (cc : Cond) (e : Byte), P (.jrCond cc e))
    (ldAtHlIncA : P .ldAtHlIncA)
    (daa : P .daa)
    (ldAAtHlInc : P .ldAAtHlInc)
    (cpl : P .cpl)
    (ldAtHlDecA : P .ldAtHlDecA)
    (incAtHl : P .incAtHl)
    (decAtHl : P .decAtHl)
    (ldAtHlN : ∀ n : Byte, P (.ldAtHlN n))
    (scf : P .scf)
    (ldAAtHlDec : P .ldAAtHlDec)
    (ccf : P .ccf)
    (ldRegReg : ∀ (dst src : Reg8), P (.ldRegReg dst src))
    (ldRegAtHl : ∀ (r : Reg8), P (.ldRegAtHl r))
    (ldAtHlReg : ∀ (r : Reg8), P (.ldAtHlReg r))
    (halt : P .halt)
    (aluReg : ∀ (op : AluOp) (r : Reg8), P (.aluReg op r))
    (aluAtHl : ∀ (op : AluOp), P (.aluAtHl op))
    (retCond : ∀ (cc : Cond), P (.retCond cc))
    (pop : ∀ (qq : Pair), P (.pop qq))
    (jpCond : ∀ (cc : Cond) (nn : Addr), P (.jpCond cc nn))
    (jpNn : ∀ nn : Addr, P (.jpNn nn))
    (callCond : ∀ (cc : Cond) (nn : Addr), P (.callCond cc nn))
    (push : ∀ (qq : Pair), P (.push qq))
    (aluImm : ∀ (op : AluOp) (n : Byte), P (.aluImm op n))
    (rst : ∀ (y : Fin 8), P (.rst y))
    (ret : P .ret)
    (prefixCb : P .prefixCb)
    (callNn : ∀ nn : Addr, P (.callNn nn))
    (illegal : ∀ p ∈ Instr.illegals, P p.2)
    (reti : P .reti)
    (ldhAtNA : ∀ n : Byte, P (.ldhAtNA n))
    (ldAtCA : P .ldAtCA)
    (addSpE : ∀ e : Byte, P (.addSpE e))
    (jpHl : P .jpHl)
    (ldAtNnA : ∀ nn : Addr, P (.ldAtNnA nn))
    (ldhAAtN : ∀ n : Byte, P (.ldhAAtN n))
    (ldAAtC : P .ldAAtC)
    (di : P .di)
    (ldHlSpE : ∀ e : Byte, P (.ldHlSpE e))
    (ldSpHl : P .ldSpHl)
    (ldAAtNn : ∀ nn : Addr, P (.ldAAtNn nn))
    (ei : P .ei)
    (rotReg : ∀ (op : RotOp) (r : Reg8), P (.rotReg op r))
    (rotAtHl : ∀ (op : RotOp), P (.rotAtHl op))
    (bitReg : ∀ (b : Fin 8) (r : Reg8), P (.bitReg b r))
    (bitAtHl : ∀ (b : Fin 8), P (.bitAtHl b))
    (resReg : ∀ (b : Fin 8) (r : Reg8), P (.resReg b r))
    (resAtHl : ∀ (b : Fin 8), P (.resAtHl b))
    (setReg : ∀ (b : Fin 8) (r : Reg8), P (.setReg b r))
    (setAtHl : ∀ (b : Fin 8), P (.setAtHl b)) : ∀ i, P i := by
  intro i
  cases i with
  | nop => exact nop
  | ldBcNn nn => exact ldReg16Imm .bc nn
  | ldAtBcA => exact ldAtBcA
  | incBc => exact incReg16 .bc
  | incB => exact incReg .b
  | decB => exact decReg .b
  | ldBN n => exact ldRegImm .b n
  | rlca => exact rlca
  | ldAtNnSp nn => exact ldAtNnSp nn
  | addHlBc => exact addHlReg16 .bc
  | ldAAtBc => exact ldAAtBc
  | decBc => exact decReg16 .bc
  | incC => exact incReg .c
  | decC => exact decReg .c
  | ldCN n => exact ldRegImm .c n
  | rrca => exact rrca
  | stop => exact stop
  | ldDeNn nn => exact ldReg16Imm .de nn
  | ldAtDeA => exact ldAtDeA
  | incDe => exact incReg16 .de
  | incD => exact incReg .d
  | decD => exact decReg .d
  | ldDN n => exact ldRegImm .d n
  | rla => exact rla
  | jrE e => exact jrE e
  | addHlDe => exact addHlReg16 .de
  | ldAAtDe => exact ldAAtDe
  | decDe => exact decReg16 .de
  | incE => exact incReg .e
  | decE => exact decReg .e
  | ldEN n => exact ldRegImm .e n
  | rra => exact rra
  | jrNzE e => exact jrCond .nz e
  | ldHlNn nn => exact ldReg16Imm .hl nn
  | ldAtHlIncA => exact ldAtHlIncA
  | incHl => exact incReg16 .hl
  | incH => exact incReg .h
  | decH => exact decReg .h
  | ldHN n => exact ldRegImm .h n
  | daa => exact daa
  | jrZE e => exact jrCond .z e
  | addHlHl => exact addHlReg16 .hl
  | ldAAtHlInc => exact ldAAtHlInc
  | decHl => exact decReg16 .hl
  | incL => exact incReg .l
  | decL => exact decReg .l
  | ldLN n => exact ldRegImm .l n
  | cpl => exact cpl
  | jrNcE e => exact jrCond .nc e
  | ldSpNn nn => exact ldReg16Imm .sp nn
  | ldAtHlDecA => exact ldAtHlDecA
  | incSp => exact incReg16 .sp
  | incAtHl => exact incAtHl
  | decAtHl => exact decAtHl
  | ldAtHlN n => exact ldAtHlN n
  | scf => exact scf
  | jrCE e => exact jrCond .c e
  | addHlSp => exact addHlReg16 .sp
  | ldAAtHlDec => exact ldAAtHlDec
  | decSp => exact decReg16 .sp
  | incA => exact incReg .a
  | decA => exact decReg .a
  | ldAN n => exact ldRegImm .a n
  | ccf => exact ccf
  | ldBB => exact ldRegReg .b .b
  | ldBC => exact ldRegReg .b .c
  | ldBD => exact ldRegReg .b .d
  | ldBE => exact ldRegReg .b .e
  | ldBH => exact ldRegReg .b .h
  | ldBL => exact ldRegReg .b .l
  | ldBAtHl => exact ldRegAtHl .b
  | ldBA => exact ldRegReg .b .a
  | ldCB => exact ldRegReg .c .b
  | ldCC => exact ldRegReg .c .c
  | ldCD => exact ldRegReg .c .d
  | ldCE => exact ldRegReg .c .e
  | ldCH => exact ldRegReg .c .h
  | ldCL => exact ldRegReg .c .l
  | ldCAtHl => exact ldRegAtHl .c
  | ldCA => exact ldRegReg .c .a
  | ldDB => exact ldRegReg .d .b
  | ldDC => exact ldRegReg .d .c
  | ldDD => exact ldRegReg .d .d
  | ldDE => exact ldRegReg .d .e
  | ldDH => exact ldRegReg .d .h
  | ldDL => exact ldRegReg .d .l
  | ldDAtHl => exact ldRegAtHl .d
  | ldDA => exact ldRegReg .d .a
  | ldEB => exact ldRegReg .e .b
  | ldEC => exact ldRegReg .e .c
  | ldED => exact ldRegReg .e .d
  | ldEE => exact ldRegReg .e .e
  | ldEH => exact ldRegReg .e .h
  | ldEL => exact ldRegReg .e .l
  | ldEAtHl => exact ldRegAtHl .e
  | ldEA => exact ldRegReg .e .a
  | ldHB => exact ldRegReg .h .b
  | ldHC => exact ldRegReg .h .c
  | ldHD => exact ldRegReg .h .d
  | ldHE => exact ldRegReg .h .e
  | ldHH => exact ldRegReg .h .h
  | ldHL => exact ldRegReg .h .l
  | ldHAtHl => exact ldRegAtHl .h
  | ldHA => exact ldRegReg .h .a
  | ldLB => exact ldRegReg .l .b
  | ldLC => exact ldRegReg .l .c
  | ldLD => exact ldRegReg .l .d
  | ldLE => exact ldRegReg .l .e
  | ldLH => exact ldRegReg .l .h
  | ldLL => exact ldRegReg .l .l
  | ldLAtHl => exact ldRegAtHl .l
  | ldLA => exact ldRegReg .l .a
  | ldAtHlB => exact ldAtHlReg .b
  | ldAtHlC => exact ldAtHlReg .c
  | ldAtHlD => exact ldAtHlReg .d
  | ldAtHlE => exact ldAtHlReg .e
  | ldAtHlH => exact ldAtHlReg .h
  | ldAtHlL => exact ldAtHlReg .l
  | halt => exact halt
  | ldAtHlA => exact ldAtHlReg .a
  | ldAB => exact ldRegReg .a .b
  | ldAC => exact ldRegReg .a .c
  | ldAD => exact ldRegReg .a .d
  | ldAE => exact ldRegReg .a .e
  | ldAH => exact ldRegReg .a .h
  | ldAL => exact ldRegReg .a .l
  | ldAAtHl => exact ldRegAtHl .a
  | ldAA => exact ldRegReg .a .a
  | addAB => exact aluReg .add .b
  | addAC => exact aluReg .add .c
  | addAD => exact aluReg .add .d
  | addAE => exact aluReg .add .e
  | addAH => exact aluReg .add .h
  | addAL => exact aluReg .add .l
  | addAAtHl => exact aluAtHl .add
  | addAA => exact aluReg .add .a
  | adcAB => exact aluReg .adc .b
  | adcAC => exact aluReg .adc .c
  | adcAD => exact aluReg .adc .d
  | adcAE => exact aluReg .adc .e
  | adcAH => exact aluReg .adc .h
  | adcAL => exact aluReg .adc .l
  | adcAAtHl => exact aluAtHl .adc
  | adcAA => exact aluReg .adc .a
  | subB => exact aluReg .sub .b
  | subC => exact aluReg .sub .c
  | subD => exact aluReg .sub .d
  | subE => exact aluReg .sub .e
  | subH => exact aluReg .sub .h
  | subL => exact aluReg .sub .l
  | subAtHl => exact aluAtHl .sub
  | subA => exact aluReg .sub .a
  | sbcAB => exact aluReg .sbc .b
  | sbcAC => exact aluReg .sbc .c
  | sbcAD => exact aluReg .sbc .d
  | sbcAE => exact aluReg .sbc .e
  | sbcAH => exact aluReg .sbc .h
  | sbcAL => exact aluReg .sbc .l
  | sbcAAtHl => exact aluAtHl .sbc
  | sbcAA => exact aluReg .sbc .a
  | andB => exact aluReg .and .b
  | andC => exact aluReg .and .c
  | andD => exact aluReg .and .d
  | andE => exact aluReg .and .e
  | andH => exact aluReg .and .h
  | andL => exact aluReg .and .l
  | andAtHl => exact aluAtHl .and
  | andA => exact aluReg .and .a
  | xorB => exact aluReg .xor .b
  | xorC => exact aluReg .xor .c
  | xorD => exact aluReg .xor .d
  | xorE => exact aluReg .xor .e
  | xorH => exact aluReg .xor .h
  | xorL => exact aluReg .xor .l
  | xorAtHl => exact aluAtHl .xor
  | xorA => exact aluReg .xor .a
  | orB => exact aluReg .or .b
  | orC => exact aluReg .or .c
  | orD => exact aluReg .or .d
  | orE => exact aluReg .or .e
  | orH => exact aluReg .or .h
  | orL => exact aluReg .or .l
  | orAtHl => exact aluAtHl .or
  | orA => exact aluReg .or .a
  | cpB => exact aluReg .cp .b
  | cpC => exact aluReg .cp .c
  | cpD => exact aluReg .cp .d
  | cpE => exact aluReg .cp .e
  | cpH => exact aluReg .cp .h
  | cpL => exact aluReg .cp .l
  | cpAtHl => exact aluAtHl .cp
  | cpA => exact aluReg .cp .a
  | retNz => exact retCond .nz
  | popBc => exact pop .bc
  | jpNzNn nn => exact jpCond .nz nn
  | jpNn nn => exact jpNn nn
  | callNzNn nn => exact callCond .nz nn
  | pushBc => exact push .bc
  | addAN n => exact aluImm .add n
  | rst00 => exact rst 0
  | retZ => exact retCond .z
  | ret => exact ret
  | jpZNn nn => exact jpCond .z nn
  | prefixCb => exact prefixCb
  | callZNn nn => exact callCond .z nn
  | callNn nn => exact callNn nn
  | adcAN n => exact aluImm .adc n
  | rst08 => exact rst 1
  | retNc => exact retCond .nc
  | popDe => exact pop .de
  | jpNcNn nn => exact jpCond .nc nn
  | illegalD3 => exact illegal (0xD3, .illegalD3) (by decide)
  | callNcNn nn => exact callCond .nc nn
  | pushDe => exact push .de
  | subN n => exact aluImm .sub n
  | rst10 => exact rst 2
  | retC => exact retCond .c
  | reti => exact reti
  | jpCNn nn => exact jpCond .c nn
  | illegalDB => exact illegal (0xDB, .illegalDB) (by decide)
  | callCNn nn => exact callCond .c nn
  | illegalDD => exact illegal (0xDD, .illegalDD) (by decide)
  | sbcAN n => exact aluImm .sbc n
  | rst18 => exact rst 3
  | ldhAtNA n => exact ldhAtNA n
  | popHl => exact pop .hl
  | ldAtCA => exact ldAtCA
  | illegalE3 => exact illegal (0xE3, .illegalE3) (by decide)
  | illegalE4 => exact illegal (0xE4, .illegalE4) (by decide)
  | pushHl => exact push .hl
  | andN n => exact aluImm .and n
  | rst20 => exact rst 4
  | addSpE e => exact addSpE e
  | jpHl => exact jpHl
  | ldAtNnA nn => exact ldAtNnA nn
  | illegalEB => exact illegal (0xEB, .illegalEB) (by decide)
  | illegalEC => exact illegal (0xEC, .illegalEC) (by decide)
  | illegalED => exact illegal (0xED, .illegalED) (by decide)
  | xorN n => exact aluImm .xor n
  | rst28 => exact rst 5
  | ldhAAtN n => exact ldhAAtN n
  | popAf => exact pop .af
  | ldAAtC => exact ldAAtC
  | di => exact di
  | illegalF4 => exact illegal (0xF4, .illegalF4) (by decide)
  | pushAf => exact push .af
  | orN n => exact aluImm .or n
  | rst30 => exact rst 6
  | ldHlSpE e => exact ldHlSpE e
  | ldSpHl => exact ldSpHl
  | ldAAtNn nn => exact ldAAtNn nn
  | ei => exact ei
  | illegalFC => exact illegal (0xFC, .illegalFC) (by decide)
  | illegalFD => exact illegal (0xFD, .illegalFD) (by decide)
  | cpN n => exact aluImm .cp n
  | rst38 => exact rst 7
  | rlcB => exact rotReg .rlc .b
  | rlcC => exact rotReg .rlc .c
  | rlcD => exact rotReg .rlc .d
  | rlcE => exact rotReg .rlc .e
  | rlcH => exact rotReg .rlc .h
  | rlcL => exact rotReg .rlc .l
  | rlcAtHl => exact rotAtHl .rlc
  | rlcA => exact rotReg .rlc .a
  | rrcB => exact rotReg .rrc .b
  | rrcC => exact rotReg .rrc .c
  | rrcD => exact rotReg .rrc .d
  | rrcE => exact rotReg .rrc .e
  | rrcH => exact rotReg .rrc .h
  | rrcL => exact rotReg .rrc .l
  | rrcAtHl => exact rotAtHl .rrc
  | rrcA => exact rotReg .rrc .a
  | rlB => exact rotReg .rl .b
  | rlC => exact rotReg .rl .c
  | rlD => exact rotReg .rl .d
  | rlE => exact rotReg .rl .e
  | rlH => exact rotReg .rl .h
  | rlL => exact rotReg .rl .l
  | rlAtHl => exact rotAtHl .rl
  | rlA => exact rotReg .rl .a
  | rrB => exact rotReg .rr .b
  | rrC => exact rotReg .rr .c
  | rrD => exact rotReg .rr .d
  | rrE => exact rotReg .rr .e
  | rrH => exact rotReg .rr .h
  | rrL => exact rotReg .rr .l
  | rrAtHl => exact rotAtHl .rr
  | rrA => exact rotReg .rr .a
  | slaB => exact rotReg .sla .b
  | slaC => exact rotReg .sla .c
  | slaD => exact rotReg .sla .d
  | slaE => exact rotReg .sla .e
  | slaH => exact rotReg .sla .h
  | slaL => exact rotReg .sla .l
  | slaAtHl => exact rotAtHl .sla
  | slaA => exact rotReg .sla .a
  | sraB => exact rotReg .sra .b
  | sraC => exact rotReg .sra .c
  | sraD => exact rotReg .sra .d
  | sraE => exact rotReg .sra .e
  | sraH => exact rotReg .sra .h
  | sraL => exact rotReg .sra .l
  | sraAtHl => exact rotAtHl .sra
  | sraA => exact rotReg .sra .a
  | swapB => exact rotReg .swap .b
  | swapC => exact rotReg .swap .c
  | swapD => exact rotReg .swap .d
  | swapE => exact rotReg .swap .e
  | swapH => exact rotReg .swap .h
  | swapL => exact rotReg .swap .l
  | swapAtHl => exact rotAtHl .swap
  | swapA => exact rotReg .swap .a
  | srlB => exact rotReg .srl .b
  | srlC => exact rotReg .srl .c
  | srlD => exact rotReg .srl .d
  | srlE => exact rotReg .srl .e
  | srlH => exact rotReg .srl .h
  | srlL => exact rotReg .srl .l
  | srlAtHl => exact rotAtHl .srl
  | srlA => exact rotReg .srl .a
  | bit0B => exact bitReg 0 .b
  | bit0C => exact bitReg 0 .c
  | bit0D => exact bitReg 0 .d
  | bit0E => exact bitReg 0 .e
  | bit0H => exact bitReg 0 .h
  | bit0L => exact bitReg 0 .l
  | bit0AtHl => exact bitAtHl 0
  | bit0A => exact bitReg 0 .a
  | bit1B => exact bitReg 1 .b
  | bit1C => exact bitReg 1 .c
  | bit1D => exact bitReg 1 .d
  | bit1E => exact bitReg 1 .e
  | bit1H => exact bitReg 1 .h
  | bit1L => exact bitReg 1 .l
  | bit1AtHl => exact bitAtHl 1
  | bit1A => exact bitReg 1 .a
  | bit2B => exact bitReg 2 .b
  | bit2C => exact bitReg 2 .c
  | bit2D => exact bitReg 2 .d
  | bit2E => exact bitReg 2 .e
  | bit2H => exact bitReg 2 .h
  | bit2L => exact bitReg 2 .l
  | bit2AtHl => exact bitAtHl 2
  | bit2A => exact bitReg 2 .a
  | bit3B => exact bitReg 3 .b
  | bit3C => exact bitReg 3 .c
  | bit3D => exact bitReg 3 .d
  | bit3E => exact bitReg 3 .e
  | bit3H => exact bitReg 3 .h
  | bit3L => exact bitReg 3 .l
  | bit3AtHl => exact bitAtHl 3
  | bit3A => exact bitReg 3 .a
  | bit4B => exact bitReg 4 .b
  | bit4C => exact bitReg 4 .c
  | bit4D => exact bitReg 4 .d
  | bit4E => exact bitReg 4 .e
  | bit4H => exact bitReg 4 .h
  | bit4L => exact bitReg 4 .l
  | bit4AtHl => exact bitAtHl 4
  | bit4A => exact bitReg 4 .a
  | bit5B => exact bitReg 5 .b
  | bit5C => exact bitReg 5 .c
  | bit5D => exact bitReg 5 .d
  | bit5E => exact bitReg 5 .e
  | bit5H => exact bitReg 5 .h
  | bit5L => exact bitReg 5 .l
  | bit5AtHl => exact bitAtHl 5
  | bit5A => exact bitReg 5 .a
  | bit6B => exact bitReg 6 .b
  | bit6C => exact bitReg 6 .c
  | bit6D => exact bitReg 6 .d
  | bit6E => exact bitReg 6 .e
  | bit6H => exact bitReg 6 .h
  | bit6L => exact bitReg 6 .l
  | bit6AtHl => exact bitAtHl 6
  | bit6A => exact bitReg 6 .a
  | bit7B => exact bitReg 7 .b
  | bit7C => exact bitReg 7 .c
  | bit7D => exact bitReg 7 .d
  | bit7E => exact bitReg 7 .e
  | bit7H => exact bitReg 7 .h
  | bit7L => exact bitReg 7 .l
  | bit7AtHl => exact bitAtHl 7
  | bit7A => exact bitReg 7 .a
  | res0B => exact resReg 0 .b
  | res0C => exact resReg 0 .c
  | res0D => exact resReg 0 .d
  | res0E => exact resReg 0 .e
  | res0H => exact resReg 0 .h
  | res0L => exact resReg 0 .l
  | res0AtHl => exact resAtHl 0
  | res0A => exact resReg 0 .a
  | res1B => exact resReg 1 .b
  | res1C => exact resReg 1 .c
  | res1D => exact resReg 1 .d
  | res1E => exact resReg 1 .e
  | res1H => exact resReg 1 .h
  | res1L => exact resReg 1 .l
  | res1AtHl => exact resAtHl 1
  | res1A => exact resReg 1 .a
  | res2B => exact resReg 2 .b
  | res2C => exact resReg 2 .c
  | res2D => exact resReg 2 .d
  | res2E => exact resReg 2 .e
  | res2H => exact resReg 2 .h
  | res2L => exact resReg 2 .l
  | res2AtHl => exact resAtHl 2
  | res2A => exact resReg 2 .a
  | res3B => exact resReg 3 .b
  | res3C => exact resReg 3 .c
  | res3D => exact resReg 3 .d
  | res3E => exact resReg 3 .e
  | res3H => exact resReg 3 .h
  | res3L => exact resReg 3 .l
  | res3AtHl => exact resAtHl 3
  | res3A => exact resReg 3 .a
  | res4B => exact resReg 4 .b
  | res4C => exact resReg 4 .c
  | res4D => exact resReg 4 .d
  | res4E => exact resReg 4 .e
  | res4H => exact resReg 4 .h
  | res4L => exact resReg 4 .l
  | res4AtHl => exact resAtHl 4
  | res4A => exact resReg 4 .a
  | res5B => exact resReg 5 .b
  | res5C => exact resReg 5 .c
  | res5D => exact resReg 5 .d
  | res5E => exact resReg 5 .e
  | res5H => exact resReg 5 .h
  | res5L => exact resReg 5 .l
  | res5AtHl => exact resAtHl 5
  | res5A => exact resReg 5 .a
  | res6B => exact resReg 6 .b
  | res6C => exact resReg 6 .c
  | res6D => exact resReg 6 .d
  | res6E => exact resReg 6 .e
  | res6H => exact resReg 6 .h
  | res6L => exact resReg 6 .l
  | res6AtHl => exact resAtHl 6
  | res6A => exact resReg 6 .a
  | res7B => exact resReg 7 .b
  | res7C => exact resReg 7 .c
  | res7D => exact resReg 7 .d
  | res7E => exact resReg 7 .e
  | res7H => exact resReg 7 .h
  | res7L => exact resReg 7 .l
  | res7AtHl => exact resAtHl 7
  | res7A => exact resReg 7 .a
  | set0B => exact setReg 0 .b
  | set0C => exact setReg 0 .c
  | set0D => exact setReg 0 .d
  | set0E => exact setReg 0 .e
  | set0H => exact setReg 0 .h
  | set0L => exact setReg 0 .l
  | set0AtHl => exact setAtHl 0
  | set0A => exact setReg 0 .a
  | set1B => exact setReg 1 .b
  | set1C => exact setReg 1 .c
  | set1D => exact setReg 1 .d
  | set1E => exact setReg 1 .e
  | set1H => exact setReg 1 .h
  | set1L => exact setReg 1 .l
  | set1AtHl => exact setAtHl 1
  | set1A => exact setReg 1 .a
  | set2B => exact setReg 2 .b
  | set2C => exact setReg 2 .c
  | set2D => exact setReg 2 .d
  | set2E => exact setReg 2 .e
  | set2H => exact setReg 2 .h
  | set2L => exact setReg 2 .l
  | set2AtHl => exact setAtHl 2
  | set2A => exact setReg 2 .a
  | set3B => exact setReg 3 .b
  | set3C => exact setReg 3 .c
  | set3D => exact setReg 3 .d
  | set3E => exact setReg 3 .e
  | set3H => exact setReg 3 .h
  | set3L => exact setReg 3 .l
  | set3AtHl => exact setAtHl 3
  | set3A => exact setReg 3 .a
  | set4B => exact setReg 4 .b
  | set4C => exact setReg 4 .c
  | set4D => exact setReg 4 .d
  | set4E => exact setReg 4 .e
  | set4H => exact setReg 4 .h
  | set4L => exact setReg 4 .l
  | set4AtHl => exact setAtHl 4
  | set4A => exact setReg 4 .a
  | set5B => exact setReg 5 .b
  | set5C => exact setReg 5 .c
  | set5D => exact setReg 5 .d
  | set5E => exact setReg 5 .e
  | set5H => exact setReg 5 .h
  | set5L => exact setReg 5 .l
  | set5AtHl => exact setAtHl 5
  | set5A => exact setReg 5 .a
  | set6B => exact setReg 6 .b
  | set6C => exact setReg 6 .c
  | set6D => exact setReg 6 .d
  | set6E => exact setReg 6 .e
  | set6H => exact setReg 6 .h
  | set6L => exact setReg 6 .l
  | set6AtHl => exact setAtHl 6
  | set6A => exact setReg 6 .a
  | set7B => exact setReg 7 .b
  | set7C => exact setReg 7 .c
  | set7D => exact setReg 7 .d
  | set7E => exact setReg 7 .e
  | set7H => exact setReg 7 .h
  | set7L => exact setReg 7 .l
  | set7AtHl => exact setAtHl 7
  | set7A => exact setReg 7 .a

/-! ### Meanings -/

theorem exec_ldReg16Imm (rr : Reg16) (nn : Addr) (s : State) :
    exec (.ldReg16Imm rr nn) s = loadReg16Imm rr nn s := by
  cases rr <;> rfl

theorem exec_incReg16 (rr : Reg16) (s : State) :
    exec (.incReg16 rr) s = incReg16 rr s := by
  cases rr <;> rfl

theorem exec_incReg (r : Reg8) (s : State) :
    exec (.incReg r) s = incReg r s := by
  cases r <;> rfl

theorem exec_decReg (r : Reg8) (s : State) :
    exec (.decReg r) s = decReg r s := by
  cases r <;> rfl

theorem exec_ldRegImm (r : Reg8) (n : Byte) (s : State) :
    exec (.ldRegImm r n) s = loadRegImm r n s := by
  cases r <;> rfl

theorem exec_addHlReg16 (rr : Reg16) (s : State) :
    exec (.addHlReg16 rr) s = addHlReg16 rr s := by
  cases rr <;> rfl

theorem exec_decReg16 (rr : Reg16) (s : State) :
    exec (.decReg16 rr) s = decReg16 rr s := by
  cases rr <;> rfl

theorem exec_jrCond (cc : Cond) (e : Byte) (s : State) :
    exec (.jrCond cc e) s = jumpRelativeIf cc e s := by
  cases cc <;> rfl

theorem exec_ldRegReg (dst src : Reg8) (s : State) :
    exec (.ldRegReg dst src) s = loadRegReg dst src s := by
  cases dst <;> cases src <;> rfl

theorem exec_ldRegAtHl (r : Reg8) (s : State) :
    exec (.ldRegAtHl r) s = loadRegAtHl r s := by
  cases r <;> rfl

theorem exec_ldAtHlReg (r : Reg8) (s : State) :
    exec (.ldAtHlReg r) s = storeAtHl r s := by
  cases r <;> rfl

theorem exec_aluReg (op : AluOp) (r : Reg8) (s : State) :
    exec (.aluReg op r) s = aluOnReg op r s := by
  cases op <;> cases r <;> rfl

theorem exec_aluAtHl (op : AluOp) (s : State) :
    exec (.aluAtHl op) s = aluOnAtHl op s := by
  cases op <;> rfl

theorem exec_retCond (cc : Cond) (s : State) :
    exec (.retCond cc) s = returnIf cc s := by
  cases cc <;> rfl

theorem exec_pop (qq : Pair) (s : State) :
    exec (.pop qq) s = popPair qq s := by
  cases qq <;> rfl

theorem exec_jpCond (cc : Cond) (nn : Addr) (s : State) :
    exec (.jpCond cc nn) s = jumpIf cc nn s := by
  cases cc <;> rfl

theorem exec_callCond (cc : Cond) (nn : Addr) (s : State) :
    exec (.callCond cc nn) s = callIf cc nn s := by
  cases cc <;> rfl

theorem exec_push (qq : Pair) (s : State) :
    exec (.push qq) s = pushPair qq s := by
  cases qq <;> rfl

theorem exec_aluImm (op : AluOp) (n : Byte) (s : State) :
    exec (.aluImm op n) s = aluOnImm op n s := by
  cases op <;> rfl

theorem exec_rst (y : Fin 8) (s : State) :
    exec (.rst y) s = callTo (8 * BitVec.ofNat 16 y.val) (s.advance 1) := by
  fin_cases y <;> rfl

theorem exec_rotReg (op : RotOp) (r : Reg8) (s : State) :
    exec (.rotReg op r) s = rotateReg op r s := by
  cases op <;> cases r <;> rfl

theorem exec_rotAtHl (op : RotOp) (s : State) :
    exec (.rotAtHl op) s = rotateAtHl op s := by
  cases op <;> rfl

theorem exec_bitReg (b : Fin 8) (r : Reg8) (s : State) :
    exec (.bitReg b r) s = testBitReg b r s := by
  fin_cases b <;> cases r <;> rfl

theorem exec_bitAtHl (b : Fin 8) (s : State) :
    exec (.bitAtHl b) s = testBitAtHl b s := by
  fin_cases b <;> rfl

theorem exec_resReg (b : Fin 8) (r : Reg8) (s : State) :
    exec (.resReg b r) s = clearBitReg b r s := by
  fin_cases b <;> cases r <;> rfl

theorem exec_resAtHl (b : Fin 8) (s : State) :
    exec (.resAtHl b) s = clearBitAtHl b s := by
  fin_cases b <;> rfl

theorem exec_setReg (b : Fin 8) (r : Reg8) (s : State) :
    exec (.setReg b r) s = setBitReg b r s := by
  fin_cases b <;> cases r <;> rfl

theorem exec_setAtHl (b : Fin 8) (s : State) :
    exec (.setAtHl b) s = setBitAtHl b s := by
  fin_cases b <;> rfl

theorem exec_illegal (p : Byte × Instr) (hp : p ∈ Instr.illegals) (s : State) :
    exec p.2 s = unimplemented p.1 s := by
  simp only [Instr.illegals, List.mem_cons, List.not_mem_nil, or_false] at hp
  rcases hp with h | h | h | h | h | h | h | h | h | h | h <;> subst h <;> rfl

/-! ### Bytes -/

theorem encode_ldReg16Imm (rr : Reg16) (nn : Addr) :
    encode (.ldReg16Imm rr nn) = [0x01 + 16 * reg16Index rr, loByte nn, hiByte nn] := by
  cases rr <;> rfl

theorem encode_incReg16 (rr : Reg16) :
    encode (.incReg16 rr) = [0x03 + 16 * reg16Index rr] := by
  cases rr <;> rfl

theorem encode_incReg (r : Reg8) :
    encode (.incReg r) = [0x04 + 8 * regIndex r] := by
  cases r <;> rfl

theorem encode_decReg (r : Reg8) :
    encode (.decReg r) = [0x05 + 8 * regIndex r] := by
  cases r <;> rfl

theorem encode_ldRegImm (r : Reg8) (n : Byte) :
    encode (.ldRegImm r n) = [0x06 + 8 * regIndex r, n] := by
  cases r <;> rfl

theorem encode_addHlReg16 (rr : Reg16) :
    encode (.addHlReg16 rr) = [0x09 + 16 * reg16Index rr] := by
  cases rr <;> rfl

theorem encode_decReg16 (rr : Reg16) :
    encode (.decReg16 rr) = [0x0B + 16 * reg16Index rr] := by
  cases rr <;> rfl

theorem encode_jrCond (cc : Cond) (e : Byte) :
    encode (.jrCond cc e) = [0x20 + 8 * condIndex cc, e] := by
  cases cc <;> rfl

theorem encode_ldRegReg (dst src : Reg8) :
    encode (.ldRegReg dst src) = [0x40 + 8 * regIndex dst + regIndex src] := by
  cases dst <;> cases src <;> rfl

theorem encode_ldRegAtHl (r : Reg8) :
    encode (.ldRegAtHl r) = [0x46 + 8 * regIndex r] := by
  cases r <;> rfl

theorem encode_ldAtHlReg (r : Reg8) :
    encode (.ldAtHlReg r) = [0x70 + regIndex r] := by
  cases r <;> rfl

theorem encode_aluReg (op : AluOp) (r : Reg8) :
    encode (.aluReg op r) = [0x80 + 8 * aluIndex op + regIndex r] := by
  cases op <;> cases r <;> rfl

theorem encode_aluAtHl (op : AluOp) :
    encode (.aluAtHl op) = [0x86 + 8 * aluIndex op] := by
  cases op <;> rfl

theorem encode_retCond (cc : Cond) :
    encode (.retCond cc) = [0xC0 + 8 * condIndex cc] := by
  cases cc <;> rfl

theorem encode_pop (qq : Pair) :
    encode (.pop qq) = [0xC1 + 16 * pairIndex qq] := by
  cases qq <;> rfl

theorem encode_jpCond (cc : Cond) (nn : Addr) :
    encode (.jpCond cc nn) = [0xC2 + 8 * condIndex cc, loByte nn, hiByte nn] := by
  cases cc <;> rfl

theorem encode_callCond (cc : Cond) (nn : Addr) :
    encode (.callCond cc nn) = [0xC4 + 8 * condIndex cc, loByte nn, hiByte nn] := by
  cases cc <;> rfl

theorem encode_push (qq : Pair) :
    encode (.push qq) = [0xC5 + 16 * pairIndex qq] := by
  cases qq <;> rfl

theorem encode_aluImm (op : AluOp) (n : Byte) :
    encode (.aluImm op n) = [0xC6 + 8 * aluIndex op, n] := by
  cases op <;> rfl

theorem encode_rst (y : Fin 8) :
    encode (.rst y) = [0xC7 + 8 * bitIndex y] := by
  fin_cases y <;> rfl

theorem encode_rotReg (op : RotOp) (r : Reg8) :
    encode (.rotReg op r) = [0xCB, 8 * rotIndex op + regIndex r] := by
  cases op <;> cases r <;> rfl

theorem encode_rotAtHl (op : RotOp) :
    encode (.rotAtHl op) = [0xCB, 0x06 + 8 * rotIndex op] := by
  cases op <;> rfl

theorem encode_bitReg (b : Fin 8) (r : Reg8) :
    encode (.bitReg b r) = [0xCB, 0x40 + 8 * bitIndex b + regIndex r] := by
  fin_cases b <;> cases r <;> rfl

theorem encode_bitAtHl (b : Fin 8) :
    encode (.bitAtHl b) = [0xCB, 0x46 + 8 * bitIndex b] := by
  fin_cases b <;> rfl

theorem encode_resReg (b : Fin 8) (r : Reg8) :
    encode (.resReg b r) = [0xCB, 0x80 + 8 * bitIndex b + regIndex r] := by
  fin_cases b <;> cases r <;> rfl

theorem encode_resAtHl (b : Fin 8) :
    encode (.resAtHl b) = [0xCB, 0x86 + 8 * bitIndex b] := by
  fin_cases b <;> rfl

theorem encode_setReg (b : Fin 8) (r : Reg8) :
    encode (.setReg b r) = [0xCB, 0xC0 + 8 * bitIndex b + regIndex r] := by
  fin_cases b <;> cases r <;> rfl

theorem encode_setAtHl (b : Fin 8) :
    encode (.setAtHl b) = [0xCB, 0xC6 + 8 * bitIndex b] := by
  fin_cases b <;> rfl

/-! ### Cycles -/

theorem cycles_ldReg16Imm (rr : Reg16) (nn : Addr) (s : State) : cycleReport (.ldReg16Imm rr nn) s = some 12 := by
  cases rr <;> rfl

theorem cycles_incReg16 (rr : Reg16) (s : State) : cycleReport (.incReg16 rr) s = some 8 := by
  cases rr <;> rfl

theorem cycles_incReg (r : Reg8) (s : State) : cycleReport (.incReg r) s = some 4 := by
  cases r <;> rfl

theorem cycles_decReg (r : Reg8) (s : State) : cycleReport (.decReg r) s = some 4 := by
  cases r <;> rfl

theorem cycles_ldRegImm (r : Reg8) (n : Byte) (s : State) : cycleReport (.ldRegImm r n) s = some 8 := by
  cases r <;> rfl

theorem cycles_addHlReg16 (rr : Reg16) (s : State) : cycleReport (.addHlReg16 rr) s = some 8 := by
  cases rr <;> rfl

theorem cycles_decReg16 (rr : Reg16) (s : State) : cycleReport (.decReg16 rr) s = some 8 := by
  cases rr <;> rfl

theorem cycles_jrCond (cc : Cond) (e : Byte) (s : State) :
    cycleReport (.jrCond cc e) s = some (if s.cond cc then 12 else 8) := by
  cases cc <;> rfl

theorem cycles_ldRegReg (dst src : Reg8) (s : State) : cycleReport (.ldRegReg dst src) s = some 4 := by
  cases dst <;> cases src <;> rfl

theorem cycles_ldRegAtHl (r : Reg8) (s : State) : cycleReport (.ldRegAtHl r) s = some 8 := by
  cases r <;> rfl

theorem cycles_ldAtHlReg (r : Reg8) (s : State) : cycleReport (.ldAtHlReg r) s = some 8 := by
  cases r <;> rfl

theorem cycles_aluReg (op : AluOp) (r : Reg8) (s : State) : cycleReport (.aluReg op r) s = some 4 := by
  cases op <;> cases r <;> rfl

theorem cycles_aluAtHl (op : AluOp) (s : State) : cycleReport (.aluAtHl op) s = some 8 := by
  cases op <;> rfl

theorem cycles_retCond (cc : Cond) (s : State) :
    cycleReport (.retCond cc) s = some (if s.cond cc then 20 else 8) := by
  cases cc <;> rfl

theorem cycles_pop (qq : Pair) (s : State) : cycleReport (.pop qq) s = some 12 := by
  cases qq <;> rfl

theorem cycles_jpCond (cc : Cond) (nn : Addr) (s : State) :
    cycleReport (.jpCond cc nn) s = some (if s.cond cc then 16 else 12) := by
  cases cc <;> rfl

theorem cycles_callCond (cc : Cond) (nn : Addr) (s : State) :
    cycleReport (.callCond cc nn) s = some (if s.cond cc then 24 else 12) := by
  cases cc <;> rfl

theorem cycles_push (qq : Pair) (s : State) : cycleReport (.push qq) s = some 16 := by
  cases qq <;> rfl

theorem cycles_aluImm (op : AluOp) (n : Byte) (s : State) : cycleReport (.aluImm op n) s = some 8 := by
  cases op <;> rfl

theorem cycles_rst (y : Fin 8) (s : State) : cycleReport (.rst y) s = some 16 := by
  fin_cases y <;> rfl

theorem cycles_rotReg (op : RotOp) (r : Reg8) (s : State) : cycleReport (.rotReg op r) s = some 8 := by
  cases op <;> cases r <;> rfl

theorem cycles_rotAtHl (op : RotOp) (s : State) : cycleReport (.rotAtHl op) s = some 16 := by
  cases op <;> rfl

theorem cycles_bitReg (b : Fin 8) (r : Reg8) (s : State) : cycleReport (.bitReg b r) s = some 8 := by
  fin_cases b <;> cases r <;> rfl

theorem cycles_bitAtHl (b : Fin 8) (s : State) : cycleReport (.bitAtHl b) s = some 12 := by
  fin_cases b <;> rfl

theorem cycles_resReg (b : Fin 8) (r : Reg8) (s : State) : cycleReport (.resReg b r) s = some 8 := by
  fin_cases b <;> cases r <;> rfl

theorem cycles_resAtHl (b : Fin 8) (s : State) : cycleReport (.resAtHl b) s = some 16 := by
  fin_cases b <;> rfl

theorem cycles_setReg (b : Fin 8) (r : Reg8) (s : State) : cycleReport (.setReg b r) s = some 8 := by
  fin_cases b <;> cases r <;> rfl

theorem cycles_setAtHl (b : Fin 8) (s : State) : cycleReport (.setAtHl b) s = some 16 := by
  fin_cases b <;> rfl

end Sys2Proof
end

