-- ==== Sys2Proof/Laws/Completion.lean ====
section
/-! SUPPORT. How the terms of Safety.lean are met: flags and frames of the named operations, and one lemma for each shape of
access (a load, a store, an update, a push, a pop) that says what has to be shown of the next state. -/

namespace Sys2Proof.Machine

/-! ### Flags and frames -/

theorem hasFlags_setFlags (s : State) (z n h c : Bool) : HasFlags (s.setFlags z n h c) z n h c := by
  cases z <;> cases n <;> cases h <;> cases c <;> rfl

theorem byteAt_of_mem_eq {s t : State} (h : t.mem = s.mem) (x : Addr) : t.byteAt x = s.byteAt x := by
  simp [State.byteAt, h]

theorem keepsMem_of_mem_eq {s t : State} (stored : List Addr) (h : t.mem = s.mem) : KeepsMem stored s t := by
  intro addr _
  simp [State.byteAt, h]

theorem keepsMem_setByte {s t : State} {x : Addr} {v : Byte} (h : t.mem = s.mem.store x.toNat v) : KeepsMem [x] s t := by
  intro addr ha
  have e : t.byteAt addr = (s.setByte x v).byteAt addr := by simp [State.byteAt, h]
  rw [e]
  exact setByte_byteAt_other _ _ _ _ (by simpa using ha)

theorem keepsMem_setByte_setByte {s t : State} {x y : Addr} {v w : Byte}
    (h : t.mem = (s.mem.store x.toNat v).store y.toNat w) : KeepsMem [x, y] s t := by
  intro addr ha
  simp only [List.mem_cons, List.not_mem_nil, or_false, not_or] at ha
  have e : t.byteAt addr = ((s.setByte x v).setByte y w).byteAt addr := by simp [State.byteAt, h]
  rw [e, setByte_byteAt_other _ _ _ _ ha.2, setByte_byteAt_other _ _ _ _ ha.1]

theorem keepsRegs_setReg (s : State) (r : Reg8) (v : Byte) : KeepsRegs [r] s (s.setReg r v) := by
  intro r' hr
  exact setReg_reg_other s r r' v (by simpa using hr)

theorem keepsRegs_setPair (s : State) (p : Pair) (v : Addr) : KeepsRegs (pairRegs p) s (s.setPair p v) := by
  intro r hr
  cases p <;> cases r <;> first | rfl | exact absurd (by decide) hr

theorem keepsRegs_setReg16 (s : State) (rr : Reg16) (v : Addr) : KeepsRegs (reg16Regs rr) s (s.setReg16 rr v) := by
  intro r hr
  cases rr <;> cases r <;> first | rfl | exact absurd (by decide) hr

/-- The condition of 40_primitives_dispatch.md R109 is the evaluator's. -/
theorem cond_iff (cc : Cond) (s : State) : s.cond cc = true ↔ CondHolds cc s := by
  have bit : ∀ v : Byte, (v.getLsbD 7 = true ↔ v &&& 0x80 ≠ 0) ∧ (v.getLsbD 4 = true ↔ v &&& 0x10 ≠ 0) := by decide
  have h7 := (bit s.f).1
  have h4 := (bit s.f).2
  cases cc <;>
    simp only [State.cond, evaluate, CondHolds, Bool.not_eq_true', Bool.eq_false_iff, ne_eq, h7, h4, not_not]

/-! ### Shapes of access -/

/-- What a completion has to show of the state after the access. -/
abbrev Ends (after s : State) (post : State → Prop) (res : Result) : Prop :=
  ∃ t, res = .next t ∧ t.fault = s.fault ∧ t.collab = s.collab ∧ t.collabState = after.collabState ∧
    t.params = s.params ∧ post t

theorem completesWith_of {after : State} {i : Instr} {s : State} {code : List Byte} {cycles : Byte} {post : State → Prop}
    {res : Result} (hcode : encode i = code) (hcycles : cycleReport i s = some cycles) (hexec : exec i s = res)
    (h : Ends after s post res) : CompletesWith after i s code cycles post := by
  subst hexec
  exact ⟨hcode, hcycles, h⟩

theorem loads_of {i : Instr} {s : State} {x : Addr} {code : List Byte} {cycles : Byte} {post : Byte → State → Prop}
    {n : Addr} {k : Byte → State → Result} (hcode : encode i = code) (hcycles : cycleReport i s = some cycles)
    (hexec : exec i s = readByte x (s.advance n) k)
    (h : ∀ v, v = s.byteAt x → Ends (s.afterRead x) s (post v) (k v ((s.afterRead x).advance n))) :
    Loads i s x code cycles post := by
  refine ⟨fun hr => completesWith_of hcode hcycles (hexec.trans (readByte_ok (by simpa using hr))) ?_, fun hr => ?_⟩
  · exact h _ rfl
  · exact ⟨_, hexec.trans (readByte_fails (by simpa using hr)), rfl⟩

theorem stores_of {i : Instr} {s : State} {x : Addr} {v : Byte} {code : List Byte} {cycles : Byte} {post : State → Prop}
    {n : Addr} {k : State → Result} (hcode : encode i = code) (hcycles : cycleReport i s = some cycles)
    (hexec : exec i s = writeByte x v (s.advance n) k)
    (h : Ends (s.afterWrite x v) s (fun t => t.byteAt x = v ∧ post t) (k ((s.afterWrite x v).advance n))) :
    Stores i s x v code cycles post := by
  refine ⟨fun hw => completesWith_of hcode hcycles (hexec.trans (writeByte_ok (by simpa using hw))) h, fun hw => ?_⟩
  exact ⟨_, hexec.trans (writeByte_fails (by simpa using hw)), rfl⟩

theorem updates_of {i : Instr} {s : State} {x : Addr} {v : Byte} {code : List Byte} {cycles : Byte} {post : State → Prop}
    {n : Addr} {g : Byte → Byte} {k : Byte → State → State → Result} (hcode : encode i = code)
    (hcycles : cycleReport i s = some cycles)
    (hexec : exec i s = readByte x (s.advance n) fun old u => writeByte x (g old) u (k old u))
    (hv : g (s.byteAt x) = v)
    (h : Ends ((s.afterRead x).afterWrite x v) s (fun t => t.byteAt x = v ∧ post t)
      (k (s.byteAt x) ((s.afterRead x).advance n) (((s.afterRead x).afterWrite x v).advance n))) :
    Updates i s x v code cycles post := by
  subst hv
  have ok : s.readFails x = false → exec i s = writeByte x (g (s.byteAt x)) ((s.afterRead x).advance n)
      (k (s.byteAt x) ((s.afterRead x).advance n)) := fun hr => hexec.trans (readByte_ok (by simpa using hr))
  refine ⟨fun hr hw => completesWith_of hcode hcycles ((ok hr).trans (writeByte_ok (by simpa using hw))) h,
    fun hr => ⟨_, hexec.trans (readByte_fails (by simpa using hr)), rfl⟩,
    fun hr hw => ⟨_, (ok hr).trans (writeByte_fails (by simpa using hw)), rfl⟩⟩

theorem pushes_of {i : Instr} {s : State} {v : Addr} {code : List Byte} {cycles : Byte} {pc : Addr} {n : Addr}
    (f : State → State) (hcode : encode i = code) (hcycles : cycleReport i s = some cycles)
    (hexec : exec i s = push16 v (s.advance n) fun u => .next (f u))
    (hf : ∀ u : State, u.pc = s.pc + n → f u = u.setPc pc) :
    Pushes i s v code cycles pc := by
  refine ⟨fun h1 h2 => completesWith_of hcode hcycles
      (hexec.trans (push16_ok (by simpa using h1) (by simpa using h2))) ?_, fun h1 => ?_, fun h1 h2 => ?_⟩
  · refine ⟨_, rfl, ?_⟩
    rw [hf _ (by simp)]
    have hne : s.sp - 1 ≠ s.sp - 2 := by bv_omega
    refine ⟨by simp, by simp, by simp, by simp, ?_, by simp, by simp, by simp, by simp, fun r _ => by simp, ?_⟩
    · simp only [setPc_byteAt, setSp_byteAt, advance_sp, advance_afterWrite, advance_byteAt]
      rw [afterWrite_byteAt_other _ _ _ _ hne, afterWrite_byteAt_same]
    · exact keepsMem_setByte_setByte (v := hiByte v) (w := loByte v) (by simp)
  · unfold Raises
    rw [hexec]
    exact push16_fails_hi (s := s.advance n) (by simpa using h1)
  · unfold Raises
    rw [hexec]
    exact push16_fails_lo (s := s.advance n) (by simpa using h1) (by simpa using h2)

theorem pops_of {i : Instr} {s : State} {code : List Byte} {cycles : Byte} {post : Addr → State → Prop} {n : Addr}
    (f : Addr → State → State) (hcode : encode i = code) (hcycles : cycleReport i s = some cycles)
    (hexec : exec i s = pop16 (s.advance n) fun v u => .next (f v u))
    (h : ∀ v, Ends ((s.afterRead s.sp).afterRead (s.sp + 1)) s (fun t => t.sp = s.sp + 2 ∧ KeepsMem [] s t ∧ post v t)
      (.next (f v ((((s.afterRead s.sp).afterRead (s.sp + 1)).advance n).setSp (s.sp + 2))))) :
    Pops i s code cycles post := by
  refine ⟨fun h1 h2 => completesWith_of hcode hcycles
      (hexec.trans (pop16_ok (by simpa using h1) (by simpa using h2))) (h _), fun h1 => ?_, fun h1 h2 => ?_⟩
  · unfold Raises
    rw [hexec]
    exact pop16_fails_lo (s := s.advance n) (by simpa using h1)
  · unfold Raises
    rw [hexec]
    exact pop16_fails_hi (s := s.advance n) (by simpa using h1) (by simpa using h2)

end Sys2Proof.Machine
end

