-- ==== Sys2Proof/Laws/Decode.lean ====
section
/-! SUPPORT. The tables against the encoder, one first byte or one extended byte at a time: what a byte selects encodes to
that byte, and is well-formed. -/

namespace Sys2Proof

theorem primaryTable_plain (op : Byte) (i : Instr) (h : primaryTable op = .plain i) :
    encode i = [op] ∧ WellFormed i = true := by
  have all : ∀ op : Byte, match primaryTable op with
      | .plain i => encode i = [op] ∧ WellFormed i = true
      | _ => True := by
    intro op
    obtain ⟨n, hn, rfl⟩ : ∃ n, n < 256 ∧ op = BitVec.ofNat 8 n := ⟨op.toNat, op.isLt, by simp⟩
    interval_cases n <;> trivial
  have h' := all op
  rw [h] at h'
  exact h'

theorem primaryTable_imm8 (op : Byte) (f : Byte → Instr) (h : primaryTable op = .imm8 f) (n : Byte) :
    encode (f n) = [op, n] ∧ WellFormed (f n) = true := by
  have all : ∀ op : Byte, match primaryTable op with
      | .imm8 f => ∀ n, encode (f n) = [op, n] ∧ WellFormed (f n) = true
      | _ => True := by
    intro op
    obtain ⟨n, hn, rfl⟩ : ∃ n, n < 256 ∧ op = BitVec.ofNat 8 n := ⟨op.toNat, op.isLt, by simp⟩
    interval_cases n <;> first | trivial | exact fun n => ⟨rfl, rfl⟩
  have h' := all op
  rw [h] at h'
  exact h' n

theorem primaryTable_imm16 (op : Byte) (f : Addr → Instr) (h : primaryTable op = .imm16 f) (nn : Addr) :
    encode (f nn) = op :: immediateBytes nn ∧ WellFormed (f nn) = true := by
  have all : ∀ op : Byte, match primaryTable op with
      | .imm16 f => ∀ nn, encode (f nn) = op :: immediateBytes nn ∧ WellFormed (f nn) = true
      | _ => True := by
    intro op
    obtain ⟨n, hn, rfl⟩ : ∃ n, n < 256 ∧ op = BitVec.ofNat 8 n := ⟨op.toNat, op.isLt, by simp⟩
    interval_cases n <;> first | trivial | exact fun nn => ⟨rfl, rfl⟩
  have h' := all op
  rw [h] at h'
  exact h' nn

theorem primaryTable_extended (op : Byte) (h : primaryTable op = .extended) : op = 0xCB := by
  have all : ∀ op : Byte, match primaryTable op with
      | .extended => op = 0xCB
      | _ => True := by
    intro op
    obtain ⟨n, hn, rfl⟩ : ∃ n, n < 256 ∧ op = BitVec.ofNat 8 n := ⟨op.toNat, op.isLt, by simp⟩
    interval_cases n <;> trivial
  have h' := all op
  rw [h] at h'
  exact h'

theorem extendedTable_bytes (op2 : Byte) :
    encode (extendedTable op2) = [0xCB, op2] ∧ WellFormed (extendedTable op2) = true := by
  obtain ⟨n, hn, rfl⟩ : ∃ n, n < 256 ∧ op2 = BitVec.ofNat 8 n := ⟨op2.toNat, op2.isLt, by simp⟩
  interval_cases n <;> exact ⟨rfl, rfl⟩

theorem immediateWord_bytes (nn : Addr) : immediateWord (nn.extractLsb' 0 8) (nn.extractLsb' 8 8) = nn :=
  Machine.join_hi_lo nn

theorem immediateBytes_word (lo hi : Byte) : immediateBytes (immediateWord lo hi) = [lo, hi] := by
  have l : (immediateWord lo hi).extractLsb' 0 8 = lo := Machine.loByte_join hi lo
  have h : (immediateWord lo hi).extractLsb' 8 8 = hi := Machine.hiByte_join hi lo
  unfold immediateBytes
  rw [l, h]

/-- Exactly the bytes a first byte asks for are those of one well-formed instruction, and decode to it. -/
theorem decode_exact (op : Byte) (rest : List Byte) (h : rest.length + 1 = opcodeLength op) :
    ∃ i, WellFormed i = true ∧ encode i = op :: rest ∧ decode (op :: rest) = .instr i [] := by
  unfold opcodeLength at h
  cases hs : primaryTable op with
  | plain i =>
    have hr : rest = [] := List.eq_nil_of_length_eq_zero (by simpa [hs] using h)
    subst hr
    exact ⟨i, (primaryTable_plain op i hs).2, (primaryTable_plain op i hs).1, by simp only [decode, hs]⟩
  | imm8 f =>
    obtain ⟨n, rfl⟩ := List.length_eq_one_iff.mp (by simpa [hs] using h : rest.length = 1)
    exact ⟨f n, (primaryTable_imm8 op f hs n).2, (primaryTable_imm8 op f hs n).1, by simp only [decode, hs]⟩
  | imm16 f =>
    obtain ⟨lo, hi, rfl⟩ := List.length_eq_two.mp (by simpa [hs] using h : rest.length = 2)
    refine ⟨f (immediateWord lo hi), (primaryTable_imm16 op f hs _).2, ?_, by simp only [decode, hs]⟩
    rw [(primaryTable_imm16 op f hs _).1, immediateBytes_word]
  | extended =>
    obtain ⟨op2, rfl⟩ := List.length_eq_one_iff.mp (by simpa [hs] using h : rest.length = 1)
    have hop := primaryTable_extended op hs
    subst hop
    exact ⟨extendedTable op2, (extendedTable_bytes op2).2, (extendedTable_bytes op2).1, rfl⟩

/-- What the bytes decode to does not depend on bytes after the instruction. -/
theorem decode_append (op : Byte) (rest more : List Byte) (h : rest.length + 1 = opcodeLength op) (i : Instr)
    (hd : decode (op :: rest) = .instr i []) : decode (op :: (rest ++ more)) = .instr i more := by
  unfold opcodeLength at h
  cases hs : primaryTable op with
  | plain j =>
    have hr : rest = [] := List.eq_nil_of_length_eq_zero (by simpa [hs] using h)
    subst hr
    simp only [decode, hs] at hd ⊢
    cases hd
    rfl
  | imm8 f =>
    obtain ⟨n, rfl⟩ := List.length_eq_one_iff.mp (by simpa [hs] using h : rest.length = 1)
    simp only [decode, hs] at hd
    cases hd
    simp [decode, hs]
  | imm16 f =>
    obtain ⟨lo, hi, rfl⟩ := List.length_eq_two.mp (by simpa [hs] using h : rest.length = 2)
    simp only [decode, hs] at hd
    cases hd
    simp [decode, hs]
  | extended =>
    obtain ⟨op2, rfl⟩ := List.length_eq_one_iff.mp (by simpa [hs] using h : rest.length = 1)
    have hop := primaryTable_extended op hs
    subst hop
    simp only [decode, hs] at hd
    cases hd
    rfl

theorem opcodeLength_bounds (op : Byte) : 1 ≤ opcodeLength op ∧ opcodeLength op ≤ 3 := by
  unfold opcodeLength
  split <;> omega

/-- The first byte of a well-formed instruction asks for as many bytes as the instruction has. -/
theorem encode_head (i : Instr) (h : WellFormed i = true) :
    ∃ op rest, encode i = op :: rest ∧ rest.length + 1 = opcodeLength op := by
  cases i <;> first | exact ⟨_, _, rfl, rfl⟩ | exact absurd h (by decide)

end Sys2Proof
end

