-- ==== Sys2Proof/Laws/Reaches.lean ====
section
/-! SUPPORT. Said once: everything an instruction can do to the state, as a chain of the named operations. A property every
operation keeps is kept by every instruction and every step (induction on `Reaches`). -/

namespace Sys2Proof.Machine

/-- `t` comes from `s` by the named operations, the four ways to raise a fatal condition among them. -/
inductive Reaches (s : State) : State → Prop where
  | refl : Reaches s s
  | setPc {u : State} (h : Reaches s u) (v : Addr) : Reaches s (u.setPc v)
  | setSp {u : State} (h : Reaches s u) (v : Addr) : Reaches s (u.setSp v)
  | setReg {u : State} (h : Reaches s u) (r : Reg8) (v : Byte) : Reaches s (u.setReg r v)
  | setPair {u : State} (h : Reaches s u) (p : Pair) (v : Addr) : Reaches s (u.setPair p v)
  | setFlags {u : State} (h : Reaches s u) (z n h' c : Bool) : Reaches s (u.setFlags z n h' c)
  | afterRead {u : State} (h : Reaches s u) (x : Addr) (ok : u.readFails x = false) : Reaches s (u.afterRead x)
  | afterWrite {u : State} (h : Reaches s u) (x : Addr) (v : Byte) (ok : u.writeFails x v = false) :
      Reaches s (u.afterWrite x v)
  | failedRead {u : State} (h : Reaches s u) (x : Addr) (bad : u.readFails x = true) :
      Reaches s { u.afterRead x with fault := some (.memoryReadError x) }
  | failedWrite {u : State} (h : Reaches s u) (x : Addr) (v w : Byte) (bad : u.writeFails x v = true) :
      Reaches s { (u.afterWrite x v).setByte x w with fault := some (.memoryWriteError x v) }
  | highPage {u : State} (h : Reaches s u) : Reaches s { u with fault := some (.highPageRange 0xFFFF) }
  | unimplemented {u : State} (h : Reaches s u) (op : Byte) (x : Addr) :
      Reaches s { u with fault := some (.unimplementedOpcode op x) }

namespace Reaches

theorem advance {s u : State} (h : Reaches s u) (n : Addr) : Reaches s (u.advance n) := h.setPc (u.pc + n)

theorem setReg16 {s u : State} (h : Reaches s u) (rr : Reg16) (v : Addr) : Reaches s (u.setReg16 rr v) := by
  cases rr
  · exact h.setPair .bc v
  · exact h.setPair .de v
  · exact h.setPair .hl v
  · exact h.setSp v

theorem readByte {s u : State} {x : Addr} {k : Byte → State → Result} (h : Reaches s u)
    (hk : ∀ v t, Reaches s t → Result.All (Reaches s) (k v t)) : Result.All (Reaches s) (readByte x u k) :=
  readByte_all (fun bad => h.failedRead x bad) fun ok => hk _ _ (h.afterRead x ok)

theorem writeByte {s u : State} {x : Addr} {v : Byte} {k : State → Result} (h : Reaches s u)
    (hk : ∀ t, Reaches s t → Result.All (Reaches s) (k t)) : Result.All (Reaches s) (writeByte x v u k) :=
  writeByte_all (fun bad w => h.failedWrite x v w bad) fun ok => hk _ (h.afterWrite x v ok)

theorem highAddr {s u : State} {off : Byte} {k : Addr → Result} (h : Reaches s u)
    (hk : ∀ x, Result.All (Reaches s) (k x)) : Result.All (Reaches s) (highAddr off u k) :=
  highAddr_all (fun _ => h.highPage) fun _ => hk _

theorem push16 {s u : State} {v : Addr} {k : State → Result} (h : Reaches s u)
    (hk : ∀ t, Reaches s t → Result.All (Reaches s) (k t)) : Result.All (Reaches s) (push16 v u k) :=
  writeByte (h.setSp _) fun _ ht => writeByte (ht.setSp _) hk

theorem pop16 {s u : State} {k : Addr → State → Result} (h : Reaches s u)
    (hk : ∀ v t, Reaches s t → Result.All (Reaches s) (k v t)) : Result.All (Reaches s) (pop16 u k) :=
  readByte h fun _ _ ht => readByte (ht.setSp _) fun _ _ hu => hk _ _ (hu.setSp _)

theorem next {s t : State} (h : Reaches s t) : Result.All (Reaches s) (.next t) := all_next h

theorem accumulate {s u : State} (h : Reaches s u) (op : AluOp) (v : Byte) : Reaches s (accumulate op v u) :=
  (h.setReg .a _).setFlags _ _ _ _

theorem addSpFlags {s u : State} (h : Reaches s u) (e : Byte) : Reaches s (addSpFlags e u) := h.setFlags _ _ _ _

theorem callTo {s u : State} {target : Addr} (h : Reaches s u) : Result.All (Reaches s) (callTo target u) :=
  push16 h fun _ ht => next (ht.setPc _)

theorem returnTo {s u : State} {k : State → Result} (h : Reaches s u)
    (hk : ∀ t, Reaches s t → Result.All (Reaches s) (k t)) : Result.All (Reaches s) (returnTo u k) :=
  pop16 h fun _ _ ht => hk _ (ht.setPc _)

theorem unimplementedAt {s : State} (op : Byte) : Result.All (Reaches s) (Machine.unimplemented op s) :=
  all_next (refl.unimplemented op s.pc)

theorem of_decimalAdjust (s : State) : Result.All (Reaches s) (decimalAdjust s) := by
  unfold decimalAdjust
  obtain ⟨v, c⟩ := daaAdjust s.a s.flagN s.flagH s.flagC
  exact next (((refl.advance 1).setReg .a v).setFlags _ _ _ _)

theorem of_incAtHl (s : State) : Result.All (Reaches s) (incAtHl s) := by
  unfold incAtHl
  exact readByte (refl.advance 1) fun _ _ hu => writeByte hu fun _ ht => next (ht.setFlags _ _ _ _)

theorem of_decAtHl (s : State) : Result.All (Reaches s) (decAtHl s) := by
  unfold decAtHl
  exact readByte (refl.advance 1) fun _ _ hu => writeByte hu fun _ ht => next (ht.setFlags _ _ _ _)

theorem of_rotateAcc (s : State) (op : RotOp) : Result.All (Reaches s) (rotateAcc op s) := by
  unfold rotateAcc
  obtain ⟨v, c⟩ := rotate op s.a s.flagC
  exact next (((refl.advance 1).setReg .a v).setFlags _ _ _ _)

theorem of_rotateReg {s u : State} (h : Reaches s u) (op : RotOp) (r : Reg8) : Result.All (Reaches s) (rotateReg op r u) := by
  unfold rotateReg
  obtain ⟨v, c⟩ := rotate op (u.reg r) u.flagC
  exact next (((h.advance 2).setReg r v).setFlags _ _ _ _)

theorem of_rotateAtHl {s u : State} (h : Reaches s u) (op : RotOp) : Result.All (Reaches s) (rotateAtHl op u) := by
  unfold rotateAtHl
  refine readByte (h.advance 2) fun old t ht => ?_
  obtain ⟨v, c⟩ := rotate op old t.flagC
  exact writeByte ht fun _ hw => next (hw.setFlags _ _ _ _)

/-- The same of every rule the extended table binds. -/
theorem of_extended {s u : State} (h : Reaches s u) (op2 : Byte) : Result.All (Reaches s) (runExtended op2 u) := by
  have h2 := h.advance 2
  unfold runExtended
  split
  · exact of_rotateReg h _ _
  · exact of_rotateAtHl h _
  · exact next (h2.setFlags _ _ _ _)
  · exact readByte h2 fun _ _ hu => next (hu.setFlags _ _ _ _)
  · exact next (h2.setReg _ _)
  · exact readByte h2 fun _ _ hu => writeByte hu fun _ => next
  · exact next (h2.setReg _ _)
  · exact readByte h2 fun _ _ hu => writeByte hu fun _ => next

/-- Every meaning answers a next state, and it is reached by the named operations. -/
theorem of_exec (s : State) (i : Instr) : Result.All (Reaches s) (exec i s) := by
  have h1 := (refl (s := s)).advance 1
  have h2 := (refl (s := s)).advance 2
  have h3 := (refl (s := s)).advance 3
  induction i using Instr.byFamily with
  | nop => exact next h1
  | ldReg16Imm rr nn => rw [exec_ldReg16Imm]; exact next (h3.setReg16 rr nn)
  | ldAtBcA => exact writeByte h1 fun _ => next
  | incReg16 rr => rw [exec_incReg16]; exact next (h1.setReg16 _ _)
  | incReg r => rw [exec_incReg]; exact next ((h1.setReg _ _).setFlags _ _ _ _)
  | decReg r => rw [exec_decReg]; exact next ((h1.setReg _ _).setFlags _ _ _ _)
  | ldRegImm r n => rw [exec_ldRegImm]; exact next (h2.setReg _ _)
  | rlca => exact of_rotateAcc s .rlc
  | ldAtNnSp nn => exact writeByte h3 fun _ ht => writeByte ht fun _ => next
  | addHlReg16 rr => rw [exec_addHlReg16]; exact next ((h1.setPair _ _).setFlags _ _ _ _)
  | ldAAtBc => exact readByte h1 fun _ _ hu => next (hu.setReg _ _)
  | decReg16 rr => rw [exec_decReg16]; exact next (h1.setReg16 _ _)
  | rrca => exact of_rotateAcc s .rrc
  | stop => exact unimplementedAt _
  | ldAtDeA => exact writeByte h1 fun _ => next
  | rla => exact of_rotateAcc s .rl
  | jrE e => exact next (h2.setPc _)
  | ldAAtDe => exact readByte h1 fun _ _ hu => next (hu.setReg _ _)
  | rra => exact of_rotateAcc s .rr
  | jrCond cc e =>
    rw [exec_jrCond]
    unfold jumpRelativeIf
    split
    · exact next (h2.setPc _)
    · exact next h2
  | ldAtHlIncA => exact writeByte h1 fun _ ht => next (ht.setPair _ _)
  | daa => exact of_decimalAdjust s
  | ldAAtHlInc => exact readByte h1 fun _ _ hu => next ((hu.setReg _ _).setPair _ _)
  | cpl => exact next ((h1.setReg _ _).setFlags _ _ _ _)
  | ldAtHlDecA => exact writeByte h1 fun _ ht => next (ht.setPair _ _)
  | incAtHl => exact of_incAtHl s
  | decAtHl => exact of_decAtHl s
  | ldAtHlN n => exact writeByte h2 fun _ => next
  | scf => exact next (h1.setFlags _ _ _ _)
  | ldAAtHlDec => exact readByte h1 fun _ _ hu => next ((hu.setReg _ _).setPair _ _)
  | ccf => exact next (h1.setFlags _ _ _ _)
  | ldRegReg dst src => rw [exec_ldRegReg]; exact next (h1.setReg _ _)
  | ldRegAtHl r => rw [exec_ldRegAtHl]; exact readByte h1 fun _ _ hu => next (hu.setReg _ _)
  | ldAtHlReg r => rw [exec_ldAtHlReg]; exact writeByte h1 fun _ => next
  | halt => exact unimplementedAt _
  | aluReg op r => rw [exec_aluReg]; exact next (h1.accumulate _ _)
  | aluAtHl op => rw [exec_aluAtHl]; exact readByte h1 fun _ _ hu => next (hu.accumulate _ _)
  | retCond cc =>
    rw [exec_retCond]
    unfold returnIf
    split
    · exact returnTo h1 fun _ => next
    · exact next h1
  | pop qq => rw [exec_pop]; exact pop16 h1 fun _ _ ht => next (ht.setPair _ _)
  | jpCond cc nn =>
    rw [exec_jpCond]
    unfold jumpIf
    split
    · exact next (refl.setPc _)
    · exact next h3
  | jpNn nn => exact next (refl.setPc _)
  | callCond cc nn =>
    rw [exec_callCond]
    unfold callIf
    split
    · exact callTo h3
    · exact next h3
  | push qq => rw [exec_push]; exact push16 h1 fun _ => next
  | aluImm op n => rw [exec_aluImm]; exact next (h2.accumulate _ _)
  | rst y => rw [exec_rst]; exact callTo h1
  | ret => exact returnTo h1 fun _ => next
  | prefixCb => exact readByte h1 fun _ _ hu => of_extended (hu.setPc _) _
  | callNn nn => exact callTo h3
  | illegal p hp => rw [exec_illegal p hp]; exact unimplementedAt _
  | reti => exact returnTo h1 fun _ ht => writeByte ht fun _ => next
  | ldhAtNA n => exact highAddr h2 fun _ => writeByte h2 fun _ => next
  | ldAtCA => exact highAddr h1 fun _ => writeByte h1 fun _ => next
  | addSpE e => exact next ((h2.addSpFlags e).setSp _)
  | jpHl => exact next (refl.setPc _)
  | ldAtNnA nn => exact writeByte h3 fun _ => next
  | ldhAAtN n => exact highAddr h2 fun _ => readByte h2 fun _ _ hu => next (hu.setReg _ _)
  | ldAAtC => exact highAddr h1 fun _ => readByte h1 fun _ _ hu => next (hu.setReg _ _)
  | di => exact writeByte h1 fun _ => next
  | ldHlSpE e => exact next ((h2.addSpFlags e).setPair _ _)
  | ldSpHl => exact next (h1.setSp _)
  | ldAAtNn nn => exact readByte h3 fun _ _ hu => next (hu.setReg _ _)
  | ei => exact writeByte h1 fun _ => next
  | rotReg op r => rw [exec_rotReg]; exact of_rotateReg refl op r
  | rotAtHl op => rw [exec_rotAtHl]; exact of_rotateAtHl refl op
  | bitReg b r => rw [exec_bitReg]; exact next (h2.setFlags _ _ _ _)
  | bitAtHl b => rw [exec_bitAtHl]; exact readByte h2 fun _ _ hu => next (hu.setFlags _ _ _ _)
  | resReg b r => rw [exec_resReg]; exact next (h2.setReg _ _)
  | resAtHl b => rw [exec_resAtHl]; exact readByte h2 fun _ _ hu => writeByte hu fun _ => next
  | setReg b r => rw [exec_setReg]; exact next (h2.setReg _ _)
  | setAtHl b => rw [exec_setAtHl]; exact readByte h2 fun _ _ hu => writeByte hu fun _ => next

/-- What is reached from a state reached is reached. -/
theorem trans {s u t : State} (h : Reaches s u) (h' : Reaches u t) : Reaches s t := by
  induction h' with
  | refl => exact h
  | setPc _ v ih => exact ih.setPc v
  | setSp _ v ih => exact ih.setSp v
  | setReg _ r v ih => exact ih.setReg r v
  | setPair _ p v ih => exact ih.setPair p v
  | setFlags _ z n h' c ih => exact ih.setFlags z n h' c
  | afterRead _ x ok ih => exact ih.afterRead x ok
  | afterWrite _ x v ok ih => exact ih.afterWrite x v ok
  | failedRead _ x bad ih => exact ih.failedRead x bad
  | failedWrite _ x v w bad ih => exact ih.failedWrite x v w bad
  | highPage _ ih => exact ih.highPage
  | unimplemented _ op x ih => exact ih.unimplemented op x

theorem of_exec_from {s u : State} (h : Reaches s u) (i : Instr) : Result.All (Reaches s) (exec i u) :=
  all_mono (of_exec u i) fun _ ht => h.trans ht

theorem of_next {s t : State} {i : Instr} (h : exec i s = .next t) : Reaches s t := all_of_next (of_exec s i) h

end Reaches

end Sys2Proof.Machine
end

