-- ==== Sys2Proof/Laws/Step.lean ====
section
/-! SUPPORT. What a fetch and a step can do: a fetch comes through with the cells at `pc`, or stops at its first read that
fails; a step performs what the bytes decode to, and reaches its next state by the named operations. -/

namespace Sys2Proof.Machine

/-! ### Reads one after the other -/

theorem add_succ (a : Addr) (k : Nat) : a + 1 + BitVec.ofNat 16 k = a + BitVec.ofNat 16 (k + 1) := by
  rw [BitVec.add_assoc]
  congr 1
  apply BitVec.eq_of_toNat_eq
  simp
  omega

theorem add_zero_addr (a : Addr) : a + BitVec.ofNat 16 0 = a := by simp

/-- Reads move nothing but the collaborator's own state. -/
theorem afterReads_eq (s : State) (a : Addr) (n : Nat) :
    s.afterReads a n = { s with collabState := (s.afterReads a n).collabState } := by
  induction n generalizing s a with
  | zero => rfl
  | succ n ih => exact ih (s.afterRead a) (a + 1)

theorem afterReads_byteAt (s : State) (a : Addr) (n : Nat) (x : Addr) : (s.afterReads a n).byteAt x = s.byteAt x := by
  rw [afterReads_eq]
  rfl

theorem afterReads_pc (s : State) (a : Addr) (n : Nat) : (s.afterReads a n).pc = s.pc := by rw [afterReads_eq]

theorem afterReads_fault (s : State) (a : Addr) (n : Nat) : (s.afterReads a n).fault = s.fault := by rw [afterReads_eq]

theorem advance_afterReads (s : State) (a m : Addr) (n : Nat) :
    (s.advance m).afterReads a n = (s.afterReads a n).advance m := by
  induction n generalizing s a with
  | zero => rfl
  | succ n ih => exact ih (s.afterRead a) (a + 1)

theorem bytesFrom_eq_of_mem {s t : State} (h : t.mem = s.mem) (a : Addr) (n : Nat) : t.bytesFrom a n = s.bytesFrom a n := by
  induction n generalizing a with
  | zero => rfl
  | succ n ih =>
    have hb : t.byteAt a = s.byteAt a := by simp [State.byteAt, h]
    simp only [State.bytesFrom, hb, ih]

theorem bytesFrom_length (s : State) (a : Addr) (n : Nat) : (s.bytesFrom a n).length = n := by
  induction n generalizing a with
  | zero => rfl
  | succ n ih => simp [State.bytesFrom, ih]

theorem bytesFrom_add (s : State) (a : Addr) (m n : Nat) :
    s.bytesFrom a (m + n) = s.bytesFrom a m ++ s.bytesFrom (a + BitVec.ofNat 16 m) n := by
  induction m generalizing a with
  | zero => simp [State.bytesFrom]
  | succ m ih =>
    rw [Nat.succ_add]
    simp only [State.bytesFrom, List.cons_append, ih, add_succ]

theorem readsAnswered_succ (s : State) (a : Addr) (n : Nat) :
    ReadsAnswered s a (n + 1) ↔ s.readFails a = false ∧ ReadsAnswered (s.afterRead a) (a + 1) n := by
  constructor
  · intro h
    have h0 := h 0 (by omega)
    rw [add_zero_addr] at h0
    refine ⟨h0, fun k hk => ?_⟩
    have hs := h (k + 1) (by omega)
    rw [add_succ]
    exact hs
  · rintro ⟨h0, hs⟩ k hk
    cases k with
    | zero =>
      rw [add_zero_addr]
      exact h0
    | succ k =>
      rw [← add_succ]
      exact hs k (by omega)

/-- Of `n` reads either all are answered or one is the first to fail. -/
theorem readsAnswered_or (s : State) (a : Addr) (n : Nat) : ReadsAnswered s a n ∨
    ∃ k < n, ReadsAnswered s a k ∧ (s.afterReads a k).readFails (a + BitVec.ofNat 16 k) = true := by
  induction n with
  | zero => exact .inl fun k hk => absurd hk (by omega)
  | succ n ih =>
    rcases ih with h | ⟨k, hk, h⟩
    · cases hn : (s.afterReads a n).readFails (a + BitVec.ofNat 16 n)
      · refine .inl fun k hk => ?_
        by_cases e : k = n
        · exact e ▸ hn
        · exact h k (by omega)
      · exact .inr ⟨n, by omega, h, hn⟩
    · exact .inr ⟨k, by omega, h⟩

/-! ### The fetch -/

theorem readBytes_ok {n : Nat} {s : State} {k : List Byte → State → Result} (h : ReadsAnswered s s.pc n) :
    readBytes n s k = k (s.bytesFrom s.pc n) ((s.afterReads s.pc n).advance (BitVec.ofNat 16 n)) := by
  induction n generalizing s k with
  | zero =>
    show k [] s = k [] (s.advance 0)
    congr 1
    simp [State.advance]
  | succ n ih =>
    rw [readsAnswered_succ] at h
    unfold readBytes
    rw [readByte_ok h.1, ih (s := (s.afterRead s.pc).advance 1) ?_]
    · rw [advance_afterReads]
      have hb : ((s.afterRead s.pc).advance 1).bytesFrom ((s.afterRead s.pc).advance 1).pc n = s.bytesFrom (s.pc + 1) n :=
        bytesFrom_eq_of_mem (s := s) (t := (s.afterRead s.pc).advance 1) rfl _ _
      rw [hb]
      show k _ ((((s.afterRead s.pc).afterReads (s.pc + 1) n).advance 1).advance _) = _
      congr 1
      show _ = ((s.afterRead s.pc).afterReads (s.pc + 1) n).advance _
      simp only [State.advance, add_succ]
    · intro j hj
      rw [advance_afterReads, advance_pc, afterRead_pc, advance_readFails]
      exact h.2 j hj

theorem readBytes_fails {n j : Nat} {s : State} {k : List Byte → State → Result} (hj : j < n) (h : ReadsAnswered s s.pc j)
    (bad : (s.afterReads s.pc j).readFails (s.pc + BitVec.ofNat 16 j) = true) :
    ∃ t, readBytes n s k = .next t ∧ t.fault = some (.memoryReadError (s.pc + BitVec.ofNat 16 j)) := by
  induction n generalizing s k j with
  | zero => omega
  | succ n ih =>
    unfold readBytes
    cases j with
    | zero =>
      rw [add_zero_addr] at bad ⊢
      exact ⟨_, readByte_fails bad, rfl⟩
    | succ j =>
      rw [readsAnswered_succ] at h
      rw [readByte_ok h.1]
      have hrec := @ih j ((s.afterRead s.pc).advance 1) (fun vs s' => k (s.byteAt s.pc :: vs) s') (by omega) ?_ ?_
      · rw [advance_pc, afterRead_pc, add_succ] at hrec
        exact hrec
      · intro i hi
        rw [advance_afterReads, advance_pc, afterRead_pc, advance_readFails]
        exact h.2 i hi
      · rw [advance_afterReads, advance_pc, afterRead_pc, advance_readFails, add_succ]
        exact bad

/-- The length of the instruction at `pc`. -/
abbrev State.lengthAtPc (s : State) : Nat := opcodeLength (s.byteAt s.pc)

theorem lengthAtPc_succ (s : State) : s.lengthAtPc - 1 + 1 = s.lengthAtPc := by
  have := (opcodeLength_bounds (s.byteAt s.pc)).1
  exact Nat.sub_add_cancel this

/-- A fetch whose reads are answered gives the cells at `pc`, as many as the first asks for. -/
theorem fetch_ok {s : State} {k : List Byte → State → Result} (h : ReadsAnswered s s.pc s.lengthAtPc) :
    fetch s k = k (s.bytesFrom s.pc s.lengthAtPc) (s.afterReads s.pc s.lengthAtPc) := by
  obtain ⟨n, hn⟩ : ∃ n, s.lengthAtPc = n + 1 := ⟨s.lengthAtPc - 1, (lengthAtPc_succ s).symm⟩
  unfold fetch
  have hl : opcodeLength (s.byteAt s.pc) - 1 = n := by
    have : opcodeLength (s.byteAt s.pc) = n + 1 := hn
    omega
  rw [hn] at h ⊢
  rw [readsAnswered_succ] at h
  rw [readByte_ok h.1, hl, readBytes_ok ?_]
  · rw [advance_afterReads]
    have hb : ((s.afterRead s.pc).advance 1).bytesFrom ((s.afterRead s.pc).advance 1).pc n = s.bytesFrom (s.pc + 1) n :=
      bytesFrom_eq_of_mem (s := s) (t := (s.afterRead s.pc).advance 1) rfl _ _
    rw [hb]
    show k _ _ = k _ ((s.afterRead s.pc).afterReads (s.pc + 1) n)
    congr 1
    have back : ∀ (X : State) (a b : Addr), X.pc = s.pc → ((X.advance a).advance b).setPc s.pc = X := by
      intro X a b hX
      rw [← hX]
      rfl
    exact back _ _ _ (afterReads_pc _ _ _)
  · intro j hj
    rw [advance_afterReads, advance_pc, afterRead_pc, advance_readFails]
    exact h.2 j hj

/-- A fetch raises the error of its first read that fails. -/
theorem fetch_fails {s : State} {j : Nat} {k : List Byte → State → Result} (hj : j = 0 ∨ j < s.lengthAtPc)
    (h : ReadsAnswered s s.pc j) (bad : (s.afterReads s.pc j).readFails (s.pc + BitVec.ofNat 16 j) = true) :
    ∃ t, fetch s k = .next t ∧ t.fault = some (.memoryReadError (s.pc + BitVec.ofNat 16 j)) := by
  unfold fetch
  cases j with
  | zero =>
    rw [add_zero_addr] at bad ⊢
    exact ⟨_, readByte_fails bad, rfl⟩
  | succ j =>
    rw [readsAnswered_succ] at h
    rw [readByte_ok h.1]
    have hj' : j < opcodeLength (s.byteAt s.pc) - 1 := by
      have : j + 1 < opcodeLength (s.byteAt s.pc) := by simpa using hj
      omega
    have hrec := @readBytes_fails _ j ((s.afterRead s.pc).advance 1)
      (fun rest u => k (s.byteAt s.pc :: rest) (u.setPc s.pc)) hj' ?_ ?_
    · rw [advance_pc, afterRead_pc, add_succ] at hrec
      exact hrec
    · intro i hi
      rw [advance_afterReads, advance_pc, afterRead_pc, advance_readFails]
      exact h.2 i hi
    · rw [advance_afterReads, advance_pc, afterRead_pc, advance_readFails, add_succ]
      exact bad

/-! ### The step -/

/-- The cells at `pc` are those of one well-formed instruction, and decode to it. -/
theorem instr_at_pc (s : State) : ∃ i, WellFormed i = true ∧ encode i = s.bytesFrom s.pc s.lengthAtPc ∧
    decode (s.bytesFrom s.pc s.lengthAtPc) = .instr i [] := by
  obtain ⟨n, hn⟩ : ∃ n, s.lengthAtPc = n + 1 := ⟨s.lengthAtPc - 1, (lengthAtPc_succ s).symm⟩
  rw [hn]
  refine decode_exact (s.byteAt s.pc) (s.bytesFrom (s.pc + 1) n) ?_
  rw [bytesFrom_length]
  exact hn.symm

/-- A step whose fetch comes through is the execution of the instruction whose bytes are the cells at `pc`. -/
theorem step_ok {s : State} {i : Instr} (hf : s.fault = none) (h : ReadsAnswered s s.pc s.lengthAtPc)
    (hd : decode (s.bytesFrom s.pc s.lengthAtPc) = .instr i []) :
    step s = exec i (s.afterReads s.pc s.lengthAtPc) := by
  unfold step
  rw [hf]
  dsimp only
  rw [fetch_ok h]
  simp only [hd]

/-- A step whose fetch does not come through raises the error of its first read that fails. -/
theorem step_fetch_fails {s : State} {j : Nat} (hf : s.fault = none) (hj : j = 0 ∨ j < s.lengthAtPc)
    (h : ReadsAnswered s s.pc j) (bad : (s.afterReads s.pc j).readFails (s.pc + BitVec.ofNat 16 j) = true) :
    ∃ t, step s = .next t ∧ t.fault = some (.memoryReadError (s.pc + BitVec.ofNat 16 j)) := by
  unfold step
  rw [hf]
  exact fetch_fails hj h bad

/-- The two ways a step goes. -/
theorem step_cases {s : State} (hf : s.fault = none) :
    (ReadsAnswered s s.pc s.lengthAtPc ∧ ∃ i, WellFormed i = true ∧ encode i = s.bytesFrom s.pc s.lengthAtPc ∧
      decode (s.bytesFrom s.pc s.lengthAtPc) = .instr i [] ∧ step s = exec i (s.afterReads s.pc s.lengthAtPc)) ∨
    ∃ j < s.lengthAtPc, ∃ t, step s = .next t ∧ t.fault = some (.memoryReadError (s.pc + BitVec.ofNat 16 j)) := by
  rcases readsAnswered_or s s.pc s.lengthAtPc with h | ⟨j, hj, h, bad⟩
  · obtain ⟨i, hw, he, hd⟩ := instr_at_pc s
    exact .inl ⟨h, i, hw, he, hd, step_ok hf h hd⟩
  · exact .inr ⟨j, hj, step_fetch_fails hf (.inr hj) h bad⟩

/-- `n` reads one after the other. -/
theorem reaches_readBytes {s u : State} {n : Nat} {k : List Byte → State → Result} (h : Reaches s u)
    (hk : ∀ vs t, vs.length = n → Reaches s t → Result.All (Reaches s) (k vs t)) :
    Result.All (Reaches s) (readBytes n u k) := by
  induction n generalizing u k with
  | zero => exact hk _ _ rfl h
  | succ n ih => exact h.readByte fun _ _ ht => ih (ht.advance 1) fun _ _ hl => hk _ _ (by simp [hl])

/-- Every answer of an unlatched step is a next state, and it is reached by the named operations. -/
theorem step_all {s : State} (hf : s.fault = none) : Result.All (Reaches s) (step s) := by
  unfold step
  rw [hf]
  refine Reaches.refl.readByte fun op u hu => reaches_readBytes (hu.advance 1) fun rest t hl ht => ?_
  have hpos := (opcodeLength_bounds op).1
  obtain ⟨i, -, -, hd⟩ := decode_exact op rest (by omega)
  simp only [hd]
  exact Reaches.of_exec_from (ht.setPc _) i

/-- A step's next state is reached by the named operations. -/
theorem step_reaches {s t : State} (h : step s = .next t) : Reaches s t := by
  cases hf : s.fault with
  | none => exact all_of_next (step_all hf) h
  | some r =>
    unfold step at h
    rw [hf] at h
    cases h

/-- An unlatched step answers a next state. -/
theorem step_next {s : State} (hf : s.fault = none) : ∃ t, step s = .next t :=
  let ⟨t, e, _⟩ := step_all hf
  ⟨t, e⟩

end Sys2Proof.Machine
end

