-- ==== Sys2Proof/Machine/Assembly.lean ====
section
/-! DEFINITION. Assembler spellings (30_encoding.md R94, R95). A notation for instructions: nothing of the machine reads it. -/

namespace Sys2Proof.Machine

/-- A hexadecimal digit. -/
def hexDigit (n : Nat) : String := (["0", "1", "2", "3", "4", "5", "6", "7", "8", "9", "A", "B", "C", "D", "E", "F"].getD n "")

/-- A byte "in hex with `0x`" (R94). -/
def hexByte (v : Byte) : String := "0x" ++ hexDigit (v.toNat / 16) ++ hexDigit (v.toNat % 16)

/-- A 16-bit value in hex. -/
def hexAddr (v : Addr) : String :=
  "0x" ++ hexDigit (v.toNat / 4096) ++ hexDigit (v.toNat / 256 % 16) ++ hexDigit (v.toNat / 16 % 16) ++
    hexDigit (v.toNat % 16)

/-- The spellings of an instruction, the canonical one first (R94), then its aliases (R95: "each an exact synonym with the
same encoding"). The bytes with no instruction and the prefix byte have none. -/
def spellings : Instr → List String
  | .nop => ["NOP"]
  | .ldBcNn nn => ["LD BC," ++ hexAddr nn]
  | .ldAtBcA => ["LD (BC),A"]
  | .incBc => ["INC BC"]
  | .incB => ["INC B"]
  | .decB => ["DEC B"]
  | .ldBN n => ["LD B," ++ hexByte n]
  | .rlca => ["RLCA"]
  | .ldAtNnSp nn => ["LD (" ++ hexAddr nn ++ "),SP"]
  | .addHlBc => ["ADD HL,BC"]
  | .ldAAtBc => ["LD A,(BC)"]
  | .decBc => ["DEC BC"]
  | .incC => ["INC C"]
  | .decC => ["DEC C"]
  | .ldCN n => ["LD C," ++ hexByte n]
  | .rrca => ["RRCA"]
  | .stop => ["STOP"]
  | .ldDeNn nn => ["LD DE," ++ hexAddr nn]
  | .ldAtDeA => ["LD (DE),A"]
  | .incDe => ["INC DE"]
  | .incD => ["INC D"]
  | .decD => ["DEC D"]
  | .ldDN n => ["LD D," ++ hexByte n]
  | .rla => ["RLA"]
  | .jrE e => ["JR " ++ hexByte e]
  | .addHlDe => ["ADD HL,DE"]
  | .ldAAtDe => ["LD A,(DE)"]
  | .decDe => ["DEC DE"]
  | .incE => ["INC E"]
  | .decE => ["DEC E"]
  | .ldEN n => ["LD E," ++ hexByte n]
  | .rra => ["RRA"]
  | .jrNzE e => ["JR NZ," ++ hexByte e]
  | .ldHlNn nn => ["LD HL," ++ hexAddr nn]
  | .ldAtHlIncA => ["LD (HL+),A", "LDI (HL),A", "LD (HLI),A"]
  | .incHl => ["INC HL"]
  | .incH => ["INC H"]
  | .decH => ["DEC H"]
  | .ldHN n => ["LD H," ++ hexByte n]
  | .daa => ["DAA"]
  | .jrZE e => ["JR Z," ++ hexByte e]
  | .addHlHl => ["ADD HL,HL"]
  | .ldAAtHlInc => ["LD A,(HL+)", "LDI A,(HL)", "LD A,(HLI)"]
  | .decHl => ["DEC HL"]
  | .incL => ["INC L"]
  | .decL => ["DEC L"]
  | .ldLN n => ["LD L," ++ hexByte n]
  | .cpl => ["CPL"]
  | .jrNcE e => ["JR NC," ++ hexByte e]
  | .ldSpNn nn => ["LD SP," ++ hexAddr nn]
  | .ldAtHlDecA => ["LD (HL-),A", "LDD (HL),A", "LD (HLD),A"]
  | .incSp => ["INC SP"]
  | .incAtHl => ["INC (HL)"]
  | .decAtHl => ["DEC (HL)"]
  | .ldAtHlN n => ["LD (HL)," ++ hexByte n]
  | .scf => ["SCF"]
  | .jrCE e => ["JR C," ++ hexByte e]
  | .addHlSp => ["ADD HL,SP"]
  | .ldAAtHlDec => ["LD A,(HL-)", "LDD A,(HL)", "LD A,(HLD)"]
  | .decSp => ["DEC SP"]
  | .incA => ["INC A"]
  | .decA => ["DEC A"]
  | .ldAN n => ["LD A," ++ hexByte n]
  | .ccf => ["CCF"]
  | .ldBB => ["LD B,B"]
  | .ldBC => ["LD B,C"]
  | .ldBD => ["LD B,D"]
  | .ldBE => ["LD B,E"]
  | .ldBH => ["LD B,H"]
  | .ldBL => ["LD B,L"]
  | .ldBAtHl => ["LD B,(HL)"]
  | .ldBA => ["LD B,A"]
  | .ldCB => ["LD C,B"]
  | .ldCC => ["LD C,C"]
  | .ldCD => ["LD C,D"]
  | .ldCE => ["LD C,E"]
  | .ldCH => ["LD C,H"]
  | .ldCL => ["LD C,L"]
  | .ldCAtHl => ["LD C,(HL)"]
  | .ldCA => ["LD C,A"]
  | .ldDB => ["LD D,B"]
  | .ldDC => ["LD D,C"]
  | .ldDD => ["LD D,D"]
  | .ldDE => ["LD D,E"]
  | .ldDH => ["LD D,H"]
  | .ldDL => ["LD D,L"]
  | .ldDAtHl => ["LD D,(HL)"]
  | .ldDA => ["LD D,A"]
  | .ldEB => ["LD E,B"]
  | .ldEC => ["LD E,C"]
  | .ldED => ["LD E,D"]
  | .ldEE => ["LD E,E"]
  | .ldEH => ["LD E,H"]
  | .ldEL => ["LD E,L"]
  | .ldEAtHl => ["LD E,(HL)"]
  | .ldEA => ["LD E,A"]
  | .ldHB => ["LD H,B"]
  | .ldHC => ["LD H,C"]
  | .ldHD => ["LD H,D"]
  | .ldHE => ["LD H,E"]
  | .ldHH => ["LD H,H"]
  | .ldHL => ["LD H,L"]
  | .ldHAtHl => ["LD H,(HL)"]
  | .ldHA => ["LD H,A"]
  | .ldLB => ["LD L,B"]
  | .ldLC => ["LD L,C"]
  | .ldLD => ["LD L,D"]
  | .ldLE => ["LD L,E"]
  | .ldLH => ["LD L,H"]
  | .ldLL => ["LD L,L"]
  | .ldLAtHl => ["LD L,(HL)"]
  | .ldLA => ["LD L,A"]
  | .ldAtHlB => ["LD (HL),B"]
  | .ldAtHlC => ["LD (HL),C"]
  | .ldAtHlD => ["LD (HL),D"]
  | .ldAtHlE => ["LD (HL),E"]
  | .ldAtHlH => ["LD (HL),H"]
  | .ldAtHlL => ["LD (HL),L"]
  | .halt => ["HALT"]
  | .ldAtHlA => ["LD (HL),A"]
  | .ldAB => ["LD A,B"]
  | .ldAC => ["LD A,C"]
  | .ldAD => ["LD A,D"]
  | .ldAE => ["LD A,E"]
  | .ldAH => ["LD A,H"]
  | .ldAL => ["LD A,L"]
  | .ldAAtHl => ["LD A,(HL)"]
  | .ldAA => ["LD A,A"]
  | .addAB => ["ADD A,B", "ADD B"]
  | .addAC => ["ADD A,C", "ADD C"]
  | .addAD => ["ADD A,D", "ADD D"]
  | .addAE => ["ADD A,E", "ADD E"]
  | .addAH => ["ADD A,H", "ADD H"]
  | .addAL => ["ADD A,L", "ADD L"]
  | .addAAtHl => ["ADD A,(HL)", "ADD (HL)"]
  | .addAA => ["ADD A,A", "ADD A"]
  | .adcAB => ["ADC A,B", "ADC B"]
  | .adcAC => ["ADC A,C", "ADC C"]
  | .adcAD => ["ADC A,D", "ADC D"]
  | .adcAE => ["ADC A,E", "ADC E"]
  | .adcAH => ["ADC A,H", "ADC H"]
  | .adcAL => ["ADC A,L", "ADC L"]
  | .adcAAtHl => ["ADC A,(HL)", "ADC (HL)"]
  | .adcAA => ["ADC A,A", "ADC A"]
  | .subB => ["SUB B", "SUB A,B"]
  | .subC => ["SUB C", "SUB A,C"]
  | .subD => ["SUB D", "SUB A,D"]
  | .subE => ["SUB E", "SUB A,E"]
  | .subH => ["SUB H", "SUB A,H"]
  | .subL => ["SUB L", "SUB A,L"]
  | .subAtHl => ["SUB (HL)", "SUB A,(HL)"]
  | .subA => ["SUB A", "SUB A,A"]
  | .sbcAB => ["SBC A,B", "SBC B"]
  | .sbcAC => ["SBC A,C", "SBC C"]
  | .sbcAD => ["SBC A,D", "SBC D"]
  | .sbcAE => ["SBC A,E", "SBC E"]
  | .sbcAH => ["SBC A,H", "SBC H"]
  | .sbcAL => ["SBC A,L", "SBC L"]
  | .sbcAAtHl => ["SBC A,(HL)", "SBC (HL)"]
  | .sbcAA => ["SBC A,A", "SBC A"]
  | .andB => ["AND B", "AND A,B"]
  | .andC => ["AND C", "AND A,C"]
  | .andD => ["AND D", "AND A,D"]
  | .andE => ["AND E", "AND A,E"]
  | .andH => ["AND H", "AND A,H"]
  | .andL => ["AND L", "AND A,L"]
  | .andAtHl => ["AND (HL)", "AND A,(HL)"]
  | .andA => ["AND A", "AND A,A"]
  | .xorB => ["XOR B", "XOR A,B"]
  | .xorC => ["XOR C", "XOR A,C"]
  | .xorD => ["XOR D", "XOR A,D"]
  | .xorE => ["XOR E", "XOR A,E"]
  | .xorH => ["XOR H", "XOR A,H"]
  | .xorL => ["XOR L", "XOR A,L"]
  | .xorAtHl => ["XOR (HL)", "XOR A,(HL)"]
  | .xorA => ["XOR A", "XOR A,A"]
  | .orB => ["OR B", "OR A,B"]
  | .orC => ["OR C", "OR A,C"]
  | .orD => ["OR D", "OR A,D"]
  | .orE => ["OR E", "OR A,E"]
  | .orH => ["OR H", "OR A,H"]
  | .orL => ["OR L", "OR A,L"]
  | .orAtHl => ["OR (HL)", "OR A,(HL)"]
  | .orA => ["OR A", "OR A,A"]
  | .cpB => ["CP B", "CP A,B"]
  | .cpC => ["CP C", "CP A,C"]
  | .cpD => ["CP D", "CP A,D"]
  | .cpE => ["CP E", "CP A,E"]
  | .cpH => ["CP H", "CP A,H"]
  | .cpL => ["CP L", "CP A,L"]
  | .cpAtHl => ["CP (HL)", "CP A,(HL)"]
  | .cpA => ["CP A", "CP A,A"]
  | .retNz => ["RET NZ"]
  | .popBc => ["POP BC"]
  | .jpNzNn nn => ["JP NZ," ++ hexAddr nn]
  | .jpNn nn => ["JP " ++ hexAddr nn]
  | .callNzNn nn => ["CALL NZ," ++ hexAddr nn]
  | .pushBc => ["PUSH BC"]
  | .addAN n => ["ADD A," ++ hexByte n, "ADD " ++ hexByte n]
  | .rst00 => ["RST 0x00"]
  | .retZ => ["RET Z"]
  | .ret => ["RET"]
  | .jpZNn nn => ["JP Z," ++ hexAddr nn]
  | .prefixCb => []
  | .callZNn nn => ["CALL Z," ++ hexAddr nn]
  | .callNn nn => ["CALL " ++ hexAddr nn]
  | .adcAN n => ["ADC A," ++ hexByte n, "ADC " ++ hexByte n]
  | .rst08 => ["RST 0x08"]
  | .retNc => ["RET NC"]
  | .popDe => ["POP DE"]
  | .jpNcNn nn => ["JP NC," ++ hexAddr nn]
  | .illegalD3 => []
  | .callNcNn nn => ["CALL NC," ++ hexAddr nn]
  | .pushDe => ["PUSH DE"]
  | .subN n => ["SUB " ++ hexByte n, "SUB A," ++ hexByte n]
  | .rst10 => ["RST 0x10"]
  | .retC => ["RET C"]
  | .reti => ["RETI"]
  | .jpCNn nn => ["JP C," ++ hexAddr nn]
  | .illegalDB => []
  | .callCNn nn => ["CALL C," ++ hexAddr nn]
  | .illegalDD => []
  | .sbcAN n => ["SBC A," ++ hexByte n, "SBC " ++ hexByte n]
  | .rst18 => ["RST 0x18"]
  | .ldhAtNA n => ["LDH (" ++ hexByte n ++ "),A", "LD (0xFF00+" ++ hexByte n ++ "),A"]
  | .popHl => ["POP HL"]
  | .ldAtCA => ["LD (C),A", "LD (0xFF00+C),A", "LDH (C),A"]
  | .illegalE3 => []
  | .illegalE4 => []
  | .pushHl => ["PUSH HL"]
  | .andN n => ["AND " ++ hexByte n, "AND A," ++ hexByte n]
  | .rst20 => ["RST 0x20"]
  | .addSpE e => ["ADD SP," ++ hexByte e]
  | .jpHl => ["JP HL", "JP (HL)"]
  | .ldAtNnA nn => ["LD (" ++ hexAddr nn ++ "),A"]
  | .illegalEB => []
  | .illegalEC => []
  | .illegalED => []
  | .xorN n => ["XOR " ++ hexByte n, "XOR A," ++ hexByte n]
  | .rst28 => ["RST 0x28"]
  | .ldhAAtN n => ["LDH A,(" ++ hexByte n ++ ")", "LD A,(0xFF00+" ++ hexByte n ++ ")"]
  | .popAf => ["POP AF"]
  | .ldAAtC => ["LD A,(C)", "LD A,(0xFF00+C)", "LDH A,(C)"]
  | .di => ["DI"]
  | .illegalF4 => []
  | .pushAf => ["PUSH AF"]
  | .orN n => ["OR " ++ hexByte n, "OR A," ++ hexByte n]
  | .rst30 => ["RST 0x30"]
  | .ldHlSpE e => ["LD HL,SP+" ++ hexByte e, "LDHL SP," ++ hexByte e]
  | .ldSpHl => ["LD SP,HL"]
  | .ldAAtNn nn => ["LD A,(" ++ hexAddr nn ++ ")"]
  | .ei => ["EI"]
  | .illegalFC => []
  | .illegalFD => []
  | .cpN n => ["CP " ++ hexByte n, "CP A," ++ hexByte n]
  | .rst38 => ["RST 0x38"]
  | .rlcB => ["RLC B"]
  | .rlcC => ["RLC C"]
  | .rlcD => ["RLC D"]
  | .rlcE => ["RLC E"]
  | .rlcH => ["RLC H"]
  | .rlcL => ["RLC L"]
  | .rlcAtHl => ["RLC (HL)"]
  | .rlcA => ["RLC A"]
  | .rrcB => ["RRC B"]
  | .rrcC => ["RRC C"]
  | .rrcD => ["RRC D"]
  | .rrcE => ["RRC E"]
  | .rrcH => ["RRC H"]
  | .rrcL => ["RRC L"]
  | .rrcAtHl => ["RRC (HL)"]
  | .rrcA => ["RRC A"]
  | .rlB => ["RL B"]
  | .rlC => ["RL C"]
  | .rlD => ["RL D"]
  | .rlE => ["RL E"]
  | .rlH => ["RL H"]
  | .rlL => ["RL L"]
  | .rlAtHl => ["RL (HL)"]
  | .rlA => ["RL A"]
  | .rrB => ["RR B"]
  | .rrC => ["RR C"]
  | .rrD => ["RR D"]
  | .rrE => ["RR E"]
  | .rrH => ["RR H"]
  | .rrL => ["RR L"]
  | .rrAtHl => ["RR (HL)"]
  | .rrA => ["RR A"]
  | .slaB => ["SLA B"]
  | .slaC => ["SLA C"]
  | .slaD => ["SLA D"]
  | .slaE => ["SLA E"]
  | .slaH => ["SLA H"]
  | .slaL => ["SLA L"]
  | .slaAtHl => ["SLA (HL)"]
  | .slaA => ["SLA A"]
  | .sraB => ["SRA B"]
  | .sraC => ["SRA C"]
  | .sraD => ["SRA D"]
  | .sraE => ["SRA E"]
  | .sraH => ["SRA H"]
  | .sraL => ["SRA L"]
  | .sraAtHl => ["SRA (HL)"]
  | .sraA => ["SRA A"]
  | .swapB => ["SWAP B"]
  | .swapC => ["SWAP C"]
  | .swapD => ["SWAP D"]
  | .swapE => ["SWAP E"]
  | .swapH => ["SWAP H"]
  | .swapL => ["SWAP L"]
  | .swapAtHl => ["SWAP (HL)"]
  | .swapA => ["SWAP A"]
  | .srlB => ["SRL B"]
  | .srlC => ["SRL C"]
  | .srlD => ["SRL D"]
  | .srlE => ["SRL E"]
  | .srlH => ["SRL H"]
  | .srlL => ["SRL L"]
  | .srlAtHl => ["SRL (HL)"]
  | .srlA => ["SRL A"]
  | .bit0B => ["BIT 0,B"]
  | .bit0C => ["BIT 0,C"]
  | .bit0D => ["BIT 0,D"]
  | .bit0E => ["BIT 0,E"]
  | .bit0H => ["BIT 0,H"]
  | .bit0L => ["BIT 0,L"]
  | .bit0AtHl => ["BIT 0,(HL)"]
  | .bit0A => ["BIT 0,A"]
  | .bit1B => ["BIT 1,B"]
  | .bit1C => ["BIT 1,C"]
  | .bit1D => ["BIT 1,D"]
  | .bit1E => ["BIT 1,E"]
  | .bit1H => ["BIT 1,H"]
  | .bit1L => ["BIT 1,L"]
  | .bit1AtHl => ["BIT 1,(HL)"]
  | .bit1A => ["BIT 1,A"]
  | .bit2B => ["BIT 2,B"]
  | .bit2C => ["BIT 2,C"]
  | .bit2D => ["BIT 2,D"]
  | .bit2E => ["BIT 2,E"]
  | .bit2H => ["BIT 2,H"]
  | .bit2L => ["BIT 2,L"]
  | .bit2AtHl => ["BIT 2,(HL)"]
  | .bit2A => ["BIT 2,A"]
  | .bit3B => ["BIT 3,B"]
  | .bit3C => ["BIT 3,C"]
  | .bit3D => ["BIT 3,D"]
  | .bit3E => ["BIT 3,E"]
  | .bit3H => ["BIT 3,H"]
  | .bit3L => ["BIT 3,L"]
  | .bit3AtHl => ["BIT 3,(HL)"]
  | .bit3A => ["BIT 3,A"]
  | .bit4B => ["BIT 4,B"]
  | .bit4C => ["BIT 4,C"]
  | .bit4D => ["BIT 4,D"]
  | .bit4E => ["BIT 4,E"]
  | .bit4H => ["BIT 4,H"]
  | .bit4L => ["BIT 4,L"]
  | .bit4AtHl => ["BIT 4,(HL)"]
  | .bit4A => ["BIT 4,A"]
  | .bit5B => ["BIT 5,B"]
  | .bit5C => ["BIT 5,C"]
  | .bit5D => ["BIT 5,D"]
  | .bit5E => ["BIT 5,E"]
  | .bit5H => ["BIT 5,H"]
  | .bit5L => ["BIT 5,L"]
  | .bit5AtHl => ["BIT 5,(HL)"]
  | .bit5A => ["BIT 5,A"]
  | .bit6B => ["BIT 6,B"]
  | .bit6C => ["BIT 6,C"]
  | .bit6D => ["BIT 6,D"]
  | .bit6E => ["BIT 6,E"]
  | .bit6H => ["BIT 6,H"]
  | .bit6L => ["BIT 6,L"]
  | .bit6AtHl => ["BIT 6,(HL)"]
  | .bit6A => ["BIT 6,A"]
  | .bit7B => ["BIT 7,B"]
  | .bit7C => ["BIT 7,C"]
  | .bit7D => ["BIT 7,D"]
  | .bit7E => ["BIT 7,E"]
  | .bit7H => ["BIT 7,H"]
  | .bit7L => ["BIT 7,L"]
  | .bit7AtHl => ["BIT 7,(HL)"]
  | .bit7A => ["BIT 7,A"]
  | .res0B => ["RES 0,B"]
  | .res0C => ["RES 0,C"]
  | .res0D => ["RES 0,D"]
  | .res0E => ["RES 0,E"]
  | .res0H => ["RES 0,H"]
  | .res0L => ["RES 0,L"]
  | .res0AtHl => ["RES 0,(HL)"]
  | .res0A => ["RES 0,A"]
  | .res1B => ["RES 1,B"]
  | .res1C => ["RES 1,C"]
  | .res1D => ["RES 1,D"]
  | .res1E => ["RES 1,E"]
  | .res1H => ["RES 1,H"]
  | .res1L => ["RES 1,L"]
  | .res1AtHl => ["RES 1,(HL)"]
  | .res1A => ["RES 1,A"]
  | .res2B => ["RES 2,B"]
  | .res2C => ["RES 2,C"]
  | .res2D => ["RES 2,D"]
  | .res2E => ["RES 2,E"]
  | .res2H => ["RES 2,H"]
  | .res2L => ["RES 2,L"]
  | .res2AtHl => ["RES 2,(HL)"]
  | .res2A => ["RES 2,A"]
  | .res3B => ["RES 3,B"]
  | .res3C => ["RES 3,C"]
  | .res3D => ["RES 3,D"]
  | .res3E => ["RES 3,E"]
  | .res3H => ["RES 3,H"]
  | .res3L => ["RES 3,L"]
  | .res3AtHl => ["RES 3,(HL)"]
  | .res3A => ["RES 3,A"]
  | .res4B => ["RES 4,B"]
  | .res4C => ["RES 4,C"]
  | .res4D => ["RES 4,D"]
  | .res4E => ["RES 4,E"]
  | .res4H => ["RES 4,H"]
  | .res4L => ["RES 4,L"]
  | .res4AtHl => ["RES 4,(HL)"]
  | .res4A => ["RES 4,A"]
  | .res5B => ["RES 5,B"]
  | .res5C => ["RES 5,C"]
  | .res5D => ["RES 5,D"]
  | .res5E => ["RES 5,E"]
  | .res5H => ["RES 5,H"]
  | .res5L => ["RES 5,L"]
  | .res5AtHl => ["RES 5,(HL)"]
  | .res5A => ["RES 5,A"]
  | .res6B => ["RES 6,B"]
  | .res6C => ["RES 6,C"]
  | .res6D => ["RES 6,D"]
  | .res6E => ["RES 6,E"]
  | .res6H => ["RES 6,H"]
  | .res6L => ["RES 6,L"]
  | .res6AtHl => ["RES 6,(HL)"]
  | .res6A => ["RES 6,A"]
  | .res7B => ["RES 7,B"]
  | .res7C => ["RES 7,C"]
  | .res7D => ["RES 7,D"]
  | .res7E => ["RES 7,E"]
  | .res7H => ["RES 7,H"]
  | .res7L => ["RES 7,L"]
  | .res7AtHl => ["RES 7,(HL)"]
  | .res7A => ["RES 7,A"]
  | .set0B => ["SET 0,B"]
  | .set0C => ["SET 0,C"]
  | .set0D => ["SET 0,D"]
  | .set0E => ["SET 0,E"]
  | .set0H => ["SET 0,H"]
  | .set0L => ["SET 0,L"]
  | .set0AtHl => ["SET 0,(HL)"]
  | .set0A => ["SET 0,A"]
  | .set1B => ["SET 1,B"]
  | .set1C => ["SET 1,C"]
  | .set1D => ["SET 1,D"]
  | .set1E => ["SET 1,E"]
  | .set1H => ["SET 1,H"]
  | .set1L => ["SET 1,L"]
  | .set1AtHl => ["SET 1,(HL)"]
  | .set1A => ["SET 1,A"]
  | .set2B => ["SET 2,B"]
  | .set2C => ["SET 2,C"]
  | .set2D => ["SET 2,D"]
  | .set2E => ["SET 2,E"]
  | .set2H => ["SET 2,H"]
  | .set2L => ["SET 2,L"]
  | .set2AtHl => ["SET 2,(HL)"]
  | .set2A => ["SET 2,A"]
  | .set3B => ["SET 3,B"]
  | .set3C => ["SET 3,C"]
  | .set3D => ["SET 3,D"]
  | .set3E => ["SET 3,E"]
  | .set3H => ["SET 3,H"]
  | .set3L => ["SET 3,L"]
  | .set3AtHl => ["SET 3,(HL)"]
  | .set3A => ["SET 3,A"]
  | .set4B => ["SET 4,B"]
  | .set4C => ["SET 4,C"]
  | .set4D => ["SET 4,D"]
  | .set4E => ["SET 4,E"]
  | .set4H => ["SET 4,H"]
  | .set4L => ["SET 4,L"]
  | .set4AtHl => ["SET 4,(HL)"]
  | .set4A => ["SET 4,A"]
  | .set5B => ["SET 5,B"]
  | .set5C => ["SET 5,C"]
  | .set5D => ["SET 5,D"]
  | .set5E => ["SET 5,E"]
  | .set5H => ["SET 5,H"]
  | .set5L => ["SET 5,L"]
  | .set5AtHl => ["SET 5,(HL)"]
  | .set5A => ["SET 5,A"]
  | .set6B => ["SET 6,B"]
  | .set6C => ["SET 6,C"]
  | .set6D => ["SET 6,D"]
  | .set6E => ["SET 6,E"]
  | .set6H => ["SET 6,H"]
  | .set6L => ["SET 6,L"]
  | .set6AtHl => ["SET 6,(HL)"]
  | .set6A => ["SET 6,A"]
  | .set7B => ["SET 7,B"]
  | .set7C => ["SET 7,C"]
  | .set7D => ["SET 7,D"]
  | .set7E => ["SET 7,E"]
  | .set7H => ["SET 7,H"]
  | .set7L => ["SET 7,L"]
  | .set7AtHl => ["SET 7,(HL)"]
  | .set7A => ["SET 7,A"]

end Sys2Proof.Machine
end

