-- ==== Sys2Proof/Tests/Slice0.lean ====
section
/-! SUPPORT. Tests. Expected values come from spec/opcode_table.json, spec/30_encoding.md and spec/95_test_vectors.md, never
from the model. Last, a witness for every obligation that has hypotheses. -/

namespace Sys2Proof.Tests
open Sys2Proof Sys2Proof.Machine

/-! ### Well-formedness -/

/-- The one check: the prefix byte alone is no instruction (47_misc_system.md R286). -/
theorem test_wellFormed_refuses_prefixCb : WellFormed .prefixCb = false := by decide

theorem test_wellFormed_admits_cpN : WellFormed (.cpN 0xFF) = true := by decide

/-! ### Decoding: every row of spec/opcode_table.json

`n` and `e` are written 0x34, `nn` is written 0x34 0x12. -/

/-- Decoding `bytes` gives `i` and leaves nothing. -/
def decodesTo (p : List Byte × Instr) : Bool := decide (decode p.1 = .instr p.2 [])

theorem test_decode_00_to_0F : ([
    ([0x00], .nop), ([0x01, 0x34, 0x12], (.ldBcNn 0x1234)), ([0x02], .ldAtBcA), ([0x03], .incBc), ([0x04], .incB),
    ([0x05], .decB), ([0x06, 0x34], (.ldBN 0x34)), ([0x07], .rlca), ([0x08, 0x34, 0x12], (.ldAtNnSp 0x1234)),
    ([0x09], .addHlBc), ([0x0A], .ldAAtBc), ([0x0B], .decBc), ([0x0C], .incC), ([0x0D], .decC),
    ([0x0E, 0x34], (.ldCN 0x34)), ([0x0F], .rrca)] :
    List (List Byte × Instr)).all decodesTo = true := by decide

theorem test_decode_10_to_1F : ([
    ([0x10], .stop), ([0x11, 0x34, 0x12], (.ldDeNn 0x1234)), ([0x12], .ldAtDeA), ([0x13], .incDe), ([0x14], .incD),
    ([0x15], .decD), ([0x16, 0x34], (.ldDN 0x34)), ([0x17], .rla), ([0x18, 0x34], (.jrE 0x34)), ([0x19], .addHlDe),
    ([0x1A], .ldAAtDe), ([0x1B], .decDe), ([0x1C], .incE), ([0x1D], .decE), ([0x1E, 0x34], (.ldEN 0x34)),
    ([0x1F], .rra)] :
    List (List Byte × Instr)).all decodesTo = true := by decide

theorem test_decode_20_to_2F : ([
    ([0x20, 0x34], (.jrNzE 0x34)), ([0x21, 0x34, 0x12], (.ldHlNn 0x1234)), ([0x22], .ldAtHlIncA), ([0x23], .incHl),
    ([0x24], .incH), ([0x25], .decH), ([0x26, 0x34], (.ldHN 0x34)), ([0x27], .daa), ([0x28, 0x34], (.jrZE 0x34)),
    ([0x29], .addHlHl), ([0x2A], .ldAAtHlInc), ([0x2B], .decHl), ([0x2C], .incL), ([0x2D], .decL),
    ([0x2E, 0x34], (.ldLN 0x34)), ([0x2F], .cpl)] :
    List (List Byte × Instr)).all decodesTo = true := by decide

theorem test_decode_30_to_3F : ([
    ([0x30, 0x34], (.jrNcE 0x34)), ([0x31, 0x34, 0x12], (.ldSpNn 0x1234)), ([0x32], .ldAtHlDecA), ([0x33], .incSp),
    ([0x34], .incAtHl), ([0x35], .decAtHl), ([0x36, 0x34], (.ldAtHlN 0x34)), ([0x37], .scf),
    ([0x38, 0x34], (.jrCE 0x34)), ([0x39], .addHlSp), ([0x3A], .ldAAtHlDec), ([0x3B], .decSp), ([0x3C], .incA),
    ([0x3D], .decA), ([0x3E, 0x34], (.ldAN 0x34)), ([0x3F], .ccf)] :
    List (List Byte × Instr)).all decodesTo = true := by decide

theorem test_decode_40_to_4F : ([
    ([0x40], .ldBB), ([0x41], .ldBC), ([0x42], .ldBD), ([0x43], .ldBE), ([0x44], .ldBH), ([0x45], .ldBL),
    ([0x46], .ldBAtHl), ([0x47], .ldBA), ([0x48], .ldCB), ([0x49], .ldCC), ([0x4A], .ldCD), ([0x4B], .ldCE),
    ([0x4C], .ldCH), ([0x4D], .ldCL), ([0x4E], .ldCAtHl), ([0x4F], .ldCA)] :
    List (List Byte × Instr)).all decodesTo = true := by decide

theorem test_decode_50_to_5F : ([
    ([0x50], .ldDB), ([0x51], .ldDC), ([0x52], .ldDD), ([0x53], .ldDE), ([0x54], .ldDH), ([0x55], .ldDL),
    ([0x56], .ldDAtHl), ([0x57], .ldDA), ([0x58], .ldEB), ([0x59], .ldEC), ([0x5A], .ldED), ([0x5B], .ldEE),
    ([0x5C], .ldEH), ([0x5D], .ldEL), ([0x5E], .ldEAtHl), ([0x5F], .ldEA)] :
    List (List Byte × Instr)).all decodesTo = true := by decide

theorem test_decode_60_to_6F : ([
    ([0x60], .ldHB), ([0x61], .ldHC), ([0x62], .ldHD), ([0x63], .ldHE), ([0x64], .ldHH), ([0x65], .ldHL),
    ([0x66], .ldHAtHl), ([0x67], .ldHA), ([0x68], .ldLB), ([0x69], .ldLC), ([0x6A], .ldLD), ([0x6B], .ldLE),
    ([0x6C], .ldLH), ([0x6D], .ldLL), ([0x6E], .ldLAtHl), ([0x6F], .ldLA)] :
    List (List Byte × Instr)).all decodesTo = true := by decide

theorem test_decode_70_to_7F : ([
    ([0x70], .ldAtHlB), ([0x71], .ldAtHlC), ([0x72], .ldAtHlD), ([0x73], .ldAtHlE), ([0x74], .ldAtHlH),
    ([0x75], .ldAtHlL), ([0x76], .halt), ([0x77], .ldAtHlA), ([0x78], .ldAB), ([0x79], .ldAC), ([0x7A], .ldAD),
    ([0x7B], .ldAE), ([0x7C], .ldAH), ([0x7D], .ldAL), ([0x7E], .ldAAtHl), ([0x7F], .ldAA)] :
    List (List Byte × Instr)).all decodesTo = true := by decide

theorem test_decode_80_to_8F : ([
    ([0x80], .addAB), ([0x81], .addAC), ([0x82], .addAD), ([0x83], .addAE), ([0x84], .addAH), ([0x85], .addAL),
    ([0x86], .addAAtHl), ([0x87], .addAA), ([0x88], .adcAB), ([0x89], .adcAC), ([0x8A], .adcAD), ([0x8B], .adcAE),
    ([0x8C], .adcAH), ([0x8D], .adcAL), ([0x8E], .adcAAtHl), ([0x8F], .adcAA)] :
    List (List Byte × Instr)).all decodesTo = true := by decide

theorem test_decode_90_to_9F : ([
    ([0x90], .subB), ([0x91], .subC), ([0x92], .subD), ([0x93], .subE), ([0x94], .subH), ([0x95], .subL),
    ([0x96], .subAtHl), ([0x97], .subA), ([0x98], .sbcAB), ([0x99], .sbcAC), ([0x9A], .sbcAD), ([0x9B], .sbcAE),
    ([0x9C], .sbcAH), ([0x9D], .sbcAL), ([0x9E], .sbcAAtHl), ([0x9F], .sbcAA)] :
    List (List Byte × Instr)).all decodesTo = true := by decide

theorem test_decode_A0_to_AF : ([
    ([0xA0], .andB), ([0xA1], .andC), ([0xA2], .andD), ([0xA3], .andE), ([0xA4], .andH), ([0xA5], .andL),
    ([0xA6], .andAtHl), ([0xA7], .andA), ([0xA8], .xorB), ([0xA9], .xorC), ([0xAA], .xorD), ([0xAB], .xorE),
    ([0xAC], .xorH), ([0xAD], .xorL), ([0xAE], .xorAtHl), ([0xAF], .xorA)] :
    List (List Byte × Instr)).all decodesTo = true := by decide

theorem test_decode_B0_to_BF : ([
    ([0xB0], .orB), ([0xB1], .orC), ([0xB2], .orD), ([0xB3], .orE), ([0xB4], .orH), ([0xB5], .orL),
    ([0xB6], .orAtHl), ([0xB7], .orA), ([0xB8], .cpB), ([0xB9], .cpC), ([0xBA], .cpD), ([0xBB], .cpE),
    ([0xBC], .cpH), ([0xBD], .cpL), ([0xBE], .cpAtHl), ([0xBF], .cpA)] :
    List (List Byte × Instr)).all decodesTo = true := by decide

theorem test_decode_C0_to_CF : ([
    ([0xC0], .retNz), ([0xC1], .popBc), ([0xC2, 0x34, 0x12], (.jpNzNn 0x1234)),
    ([0xC3, 0x34, 0x12], (.jpNn 0x1234)), ([0xC4, 0x34, 0x12], (.callNzNn 0x1234)), ([0xC5], .pushBc),
    ([0xC6, 0x34], (.addAN 0x34)), ([0xC7], .rst00), ([0xC8], .retZ), ([0xC9], .ret),
    ([0xCA, 0x34, 0x12], (.jpZNn 0x1234)), ([0xCB], .prefixCb), ([0xCC, 0x34, 0x12], (.callZNn 0x1234)),
    ([0xCD, 0x34, 0x12], (.callNn 0x1234)), ([0xCE, 0x34], (.adcAN 0x34)), ([0xCF], .rst08)] :
    List (List Byte × Instr)).all decodesTo = true := by decide

theorem test_decode_D0_to_DF : ([
    ([0xD0], .retNc), ([0xD1], .popDe), ([0xD2, 0x34, 0x12], (.jpNcNn 0x1234)), ([0xD3], .illegalD3),
    ([0xD4, 0x34, 0x12], (.callNcNn 0x1234)), ([0xD5], .pushDe), ([0xD6, 0x34], (.subN 0x34)), ([0xD7], .rst10),
    ([0xD8], .retC), ([0xD9], .reti), ([0xDA, 0x34, 0x12], (.jpCNn 0x1234)), ([0xDB], .illegalDB),
    ([0xDC, 0x34, 0x12], (.callCNn 0x1234)), ([0xDD], .illegalDD), ([0xDE, 0x34], (.sbcAN 0x34)), ([0xDF], .rst18)] :
    List (List Byte × Instr)).all decodesTo = true := by decide

theorem test_decode_E0_to_EF : ([
    ([0xE0, 0x34], (.ldhAtNA 0x34)), ([0xE1], .popHl), ([0xE2], .ldAtCA), ([0xE3], .illegalE3),
    ([0xE4], .illegalE4), ([0xE5], .pushHl), ([0xE6, 0x34], (.andN 0x34)), ([0xE7], .rst20),
    ([0xE8, 0x34], (.addSpE 0x34)), ([0xE9], .jpHl), ([0xEA, 0x34, 0x12], (.ldAtNnA 0x1234)), ([0xEB], .illegalEB),
    ([0xEC], .illegalEC), ([0xED], .illegalED), ([0xEE, 0x34], (.xorN 0x34)), ([0xEF], .rst28)] :
    List (List Byte × Instr)).all decodesTo = true := by decide

theorem test_decode_F0_to_FF : ([
    ([0xF0, 0x34], (.ldhAAtN 0x34)), ([0xF1], .popAf), ([0xF2], .ldAAtC), ([0xF3], .di), ([0xF4], .illegalF4),
    ([0xF5], .pushAf), ([0xF6, 0x34], (.orN 0x34)), ([0xF7], .rst30), ([0xF8, 0x34], (.ldHlSpE 0x34)),
    ([0xF9], .ldSpHl), ([0xFA, 0x34, 0x12], (.ldAAtNn 0x1234)), ([0xFB], .ei), ([0xFC], .illegalFC),
    ([0xFD], .illegalFD), ([0xFE, 0x34], (.cpN 0x34)), ([0xFF], .rst38)] :
    List (List Byte × Instr)).all decodesTo = true := by decide

theorem test_decode_cb_00_to_0F : ([
    ([0xCB, 0x00], .rlcB), ([0xCB, 0x01], .rlcC), ([0xCB, 0x02], .rlcD), ([0xCB, 0x03], .rlcE),
    ([0xCB, 0x04], .rlcH), ([0xCB, 0x05], .rlcL), ([0xCB, 0x06], .rlcAtHl), ([0xCB, 0x07], .rlcA),
    ([0xCB, 0x08], .rrcB), ([0xCB, 0x09], .rrcC), ([0xCB, 0x0A], .rrcD), ([0xCB, 0x0B], .rrcE),
    ([0xCB, 0x0C], .rrcH), ([0xCB, 0x0D], .rrcL), ([0xCB, 0x0E], .rrcAtHl), ([0xCB, 0x0F], .rrcA)] :
    List (List Byte × Instr)).all decodesTo = true := by decide

theorem test_decode_cb_10_to_1F : ([
    ([0xCB, 0x10], .rlB), ([0xCB, 0x11], .rlC), ([0xCB, 0x12], .rlD), ([0xCB, 0x13], .rlE), ([0xCB, 0x14], .rlH),
    ([0xCB, 0x15], .rlL), ([0xCB, 0x16], .rlAtHl), ([0xCB, 0x17], .rlA), ([0xCB, 0x18], .rrB), ([0xCB, 0x19], .rrC),
    ([0xCB, 0x1A], .rrD), ([0xCB, 0x1B], .rrE), ([0xCB, 0x1C], .rrH), ([0xCB, 0x1D], .rrL), ([0xCB, 0x1E], .rrAtHl),
    ([0xCB, 0x1F], .rrA)] :
    List (List Byte × Instr)).all decodesTo = true := by decide

theorem test_decode_cb_20_to_2F : ([
    ([0xCB, 0x20], .slaB), ([0xCB, 0x21], .slaC), ([0xCB, 0x22], .slaD), ([0xCB, 0x23], .slaE),
    ([0xCB, 0x24], .slaH), ([0xCB, 0x25], .slaL), ([0xCB, 0x26], .slaAtHl), ([0xCB, 0x27], .slaA),
    ([0xCB, 0x28], .sraB), ([0xCB, 0x29], .sraC), ([0xCB, 0x2A], .sraD), ([0xCB, 0x2B], .sraE),
    ([0xCB, 0x2C], .sraH), ([0xCB, 0x2D], .sraL), ([0xCB, 0x2E], .sraAtHl), ([0xCB, 0x2F], .sraA)] :
    List (List Byte × Instr)).all decodesTo = true := by decide

theorem test_decode_cb_30_to_3F : ([
    ([0xCB, 0x30], .swapB), ([0xCB, 0x31], .swapC), ([0xCB, 0x32], .swapD), ([0xCB, 0x33], .swapE),
    ([0xCB, 0x34], .swapH), ([0xCB, 0x35], .swapL), ([0xCB, 0x36], .swapAtHl), ([0xCB, 0x37], .swapA),
    ([0xCB, 0x38], .srlB), ([0xCB, 0x39], .srlC), ([0xCB, 0x3A], .srlD), ([0xCB, 0x3B], .srlE),
    ([0xCB, 0x3C], .srlH), ([0xCB, 0x3D], .srlL), ([0xCB, 0x3E], .srlAtHl), ([0xCB, 0x3F], .srlA)] :
    List (List Byte × Instr)).all decodesTo = true := by decide

theorem test_decode_cb_40_to_4F : ([
    ([0xCB, 0x40], .bit0B), ([0xCB, 0x41], .bit0C), ([0xCB, 0x42], .bit0D), ([0xCB, 0x43], .bit0E),
    ([0xCB, 0x44], .bit0H), ([0xCB, 0x45], .bit0L), ([0xCB, 0x46], .bit0AtHl), ([0xCB, 0x47], .bit0A),
    ([0xCB, 0x48], .bit1B), ([0xCB, 0x49], .bit1C), ([0xCB, 0x4A], .bit1D), ([0xCB, 0x4B], .bit1E),
    ([0xCB, 0x4C], .bit1H), ([0xCB, 0x4D], .bit1L), ([0xCB, 0x4E], .bit1AtHl), ([0xCB, 0x4F], .bit1A)] :
    List (List Byte × Instr)).all decodesTo = true := by decide

theorem test_decode_cb_50_to_5F : ([
    ([0xCB, 0x50], .bit2B), ([0xCB, 0x51], .bit2C), ([0xCB, 0x52], .bit2D), ([0xCB, 0x53], .bit2E),
    ([0xCB, 0x54], .bit2H), ([0xCB, 0x55], .bit2L), ([0xCB, 0x56], .bit2AtHl), ([0xCB, 0x57], .bit2A),
    ([0xCB, 0x58], .bit3B), ([0xCB, 0x59], .bit3C), ([0xCB, 0x5A], .bit3D), ([0xCB, 0x5B], .bit3E),
    ([0xCB, 0x5C], .bit3H), ([0xCB, 0x5D], .bit3L), ([0xCB, 0x5E], .bit3AtHl), ([0xCB, 0x5F], .bit3A)] :
    List (List Byte × Instr)).all decodesTo = true := by decide

theorem test_decode_cb_60_to_6F : ([
    ([0xCB, 0x60], .bit4B), ([0xCB, 0x61], .bit4C), ([0xCB, 0x62], .bit4D), ([0xCB, 0x63], .bit4E),
    ([0xCB, 0x64], .bit4H), ([0xCB, 0x65], .bit4L), ([0xCB, 0x66], .bit4AtHl), ([0xCB, 0x67], .bit4A),
    ([0xCB, 0x68], .bit5B), ([0xCB, 0x69], .bit5C), ([0xCB, 0x6A], .bit5D), ([0xCB, 0x6B], .bit5E),
    ([0xCB, 0x6C], .bit5H), ([0xCB, 0x6D], .bit5L), ([0xCB, 0x6E], .bit5AtHl), ([0xCB, 0x6F], .bit5A)] :
    List (List Byte × Instr)).all decodesTo = true := by decide

theorem test_decode_cb_70_to_7F : ([
    ([0xCB, 0x70], .bit6B), ([0xCB, 0x71], .bit6C), ([0xCB, 0x72], .bit6D), ([0xCB, 0x73], .bit6E),
    ([0xCB, 0x74], .bit6H), ([0xCB, 0x75], .bit6L), ([0xCB, 0x76], .bit6AtHl), ([0xCB, 0x77], .bit6A),
    ([0xCB, 0x78], .bit7B), ([0xCB, 0x79], .bit7C), ([0xCB, 0x7A], .bit7D), ([0xCB, 0x7B], .bit7E),
    ([0xCB, 0x7C], .bit7H), ([0xCB, 0x7D], .bit7L), ([0xCB, 0x7E], .bit7AtHl), ([0xCB, 0x7F], .bit7A)] :
    List (List Byte × Instr)).all decodesTo = true := by decide

theorem test_decode_cb_80_to_8F : ([
    ([0xCB, 0x80], .res0B), ([0xCB, 0x81], .res0C), ([0xCB, 0x82], .res0D), ([0xCB, 0x83], .res0E),
    ([0xCB, 0x84], .res0H), ([0xCB, 0x85], .res0L), ([0xCB, 0x86], .res0AtHl), ([0xCB, 0x87], .res0A),
    ([0xCB, 0x88], .res1B), ([0xCB, 0x89], .res1C), ([0xCB, 0x8A], .res1D), ([0xCB, 0x8B], .res1E),
    ([0xCB, 0x8C], .res1H), ([0xCB, 0x8D], .res1L), ([0xCB, 0x8E], .res1AtHl), ([0xCB, 0x8F], .res1A)] :
    List (List Byte × Instr)).all decodesTo = true := by decide

theorem test_decode_cb_90_to_9F : ([
    ([0xCB, 0x90], .res2B), ([0xCB, 0x91], .res2C), ([0xCB, 0x92], .res2D), ([0xCB, 0x93], .res2E),
    ([0xCB, 0x94], .res2H), ([0xCB, 0x95], .res2L), ([0xCB, 0x96], .res2AtHl), ([0xCB, 0x97], .res2A),
    ([0xCB, 0x98], .res3B), ([0xCB, 0x99], .res3C), ([0xCB, 0x9A], .res3D), ([0xCB, 0x9B], .res3E),
    ([0xCB, 0x9C], .res3H), ([0xCB, 0x9D], .res3L), ([0xCB, 0x9E], .res3AtHl), ([0xCB, 0x9F], .res3A)] :
    List (List Byte × Instr)).all decodesTo = true := by decide

theorem test_decode_cb_A0_to_AF : ([
    ([0xCB, 0xA0], .res4B), ([0xCB, 0xA1], .res4C), ([0xCB, 0xA2], .res4D), ([0xCB, 0xA3], .res4E),
    ([0xCB, 0xA4], .res4H), ([0xCB, 0xA5], .res4L), ([0xCB, 0xA6], .res4AtHl), ([0xCB, 0xA7], .res4A),
    ([0xCB, 0xA8], .res5B), ([0xCB, 0xA9], .res5C), ([0xCB, 0xAA], .res5D), ([0xCB, 0xAB], .res5E),
    ([0xCB, 0xAC], .res5H), ([0xCB, 0xAD], .res5L), ([0xCB, 0xAE], .res5AtHl), ([0xCB, 0xAF], .res5A)] :
    List (List Byte × Instr)).all decodesTo = true := by decide

theorem test_decode_cb_B0_to_BF : ([
    ([0xCB, 0xB0], .res6B), ([0xCB, 0xB1], .res6C), ([0xCB, 0xB2], .res6D), ([0xCB, 0xB3], .res6E),
    ([0xCB, 0xB4], .res6H), ([0xCB, 0xB5], .res6L), ([0xCB, 0xB6], .res6AtHl), ([0xCB, 0xB7], .res6A),
    ([0xCB, 0xB8], .res7B), ([0xCB, 0xB9], .res7C), ([0xCB, 0xBA], .res7D), ([0xCB, 0xBB], .res7E),
    ([0xCB, 0xBC], .res7H), ([0xCB, 0xBD], .res7L), ([0xCB, 0xBE], .res7AtHl), ([0xCB, 0xBF], .res7A)] :
    List (List Byte × Instr)).all decodesTo = true := by decide

theorem test_decode_cb_C0_to_CF : ([
    ([0xCB, 0xC0], .set0B), ([0xCB, 0xC1], .set0C), ([0xCB, 0xC2], .set0D), ([0xCB, 0xC3], .set0E),
    ([0xCB, 0xC4], .set0H), ([0xCB, 0xC5], .set0L), ([0xCB, 0xC6], .set0AtHl), ([0xCB, 0xC7], .set0A),
    ([0xCB, 0xC8], .set1B), ([0xCB, 0xC9], .set1C), ([0xCB, 0xCA], .set1D), ([0xCB, 0xCB], .set1E),
    ([0xCB, 0xCC], .set1H), ([0xCB, 0xCD], .set1L), ([0xCB, 0xCE], .set1AtHl), ([0xCB, 0xCF], .set1A)] :
    List (List Byte × Instr)).all decodesTo = true := by decide

theorem test_decode_cb_D0_to_DF : ([
    ([0xCB, 0xD0], .set2B), ([0xCB, 0xD1], .set2C), ([0xCB, 0xD2], .set2D), ([0xCB, 0xD3], .set2E),
    ([0xCB, 0xD4], .set2H), ([0xCB, 0xD5], .set2L), ([0xCB, 0xD6], .set2AtHl), ([0xCB, 0xD7], .set2A),
    ([0xCB, 0xD8], .set3B), ([0xCB, 0xD9], .set3C), ([0xCB, 0xDA], .set3D), ([0xCB, 0xDB], .set3E),
    ([0xCB, 0xDC], .set3H), ([0xCB, 0xDD], .set3L), ([0xCB, 0xDE], .set3AtHl), ([0xCB, 0xDF], .set3A)] :
    List (List Byte × Instr)).all decodesTo = true := by decide

theorem test_decode_cb_E0_to_EF : ([
    ([0xCB, 0xE0], .set4B), ([0xCB, 0xE1], .set4C), ([0xCB, 0xE2], .set4D), ([0xCB, 0xE3], .set4E),
    ([0xCB, 0xE4], .set4H), ([0xCB, 0xE5], .set4L), ([0xCB, 0xE6], .set4AtHl), ([0xCB, 0xE7], .set4A),
    ([0xCB, 0xE8], .set5B), ([0xCB, 0xE9], .set5C), ([0xCB, 0xEA], .set5D), ([0xCB, 0xEB], .set5E),
    ([0xCB, 0xEC], .set5H), ([0xCB, 0xED], .set5L), ([0xCB, 0xEE], .set5AtHl), ([0xCB, 0xEF], .set5A)] :
    List (List Byte × Instr)).all decodesTo = true := by decide

theorem test_decode_cb_F0_to_FF : ([
    ([0xCB, 0xF0], .set6B), ([0xCB, 0xF1], .set6C), ([0xCB, 0xF2], .set6D), ([0xCB, 0xF3], .set6E),
    ([0xCB, 0xF4], .set6H), ([0xCB, 0xF5], .set6L), ([0xCB, 0xF6], .set6AtHl), ([0xCB, 0xF7], .set6A),
    ([0xCB, 0xF8], .set7B), ([0xCB, 0xF9], .set7C), ([0xCB, 0xFA], .set7D), ([0xCB, 0xFB], .set7E),
    ([0xCB, 0xFC], .set7H), ([0xCB, 0xFD], .set7L), ([0xCB, 0xFE], .set7AtHl), ([0xCB, 0xFF], .set7A)] :
    List (List Byte × Instr)).all decodesTo = true := by decide

/-- The table's word of a two-byte row, numbered as the table numbers it (log 7). -/
theorem test_decodeTableWord : decodeTableWord 16 0xCB37 = some .swapA ∧ decodeTableWord 8 0x41 = some .ldBC ∧
    decodeTableWord 24 0x1234CD = some (.callNn 0x1234) ∧ decodeTableWord 8 0xCB = some .prefixCb := by decide

theorem test_withFetchWord : step (State.reset.withFetchWord 16 0xCB37) = exec .swapA (State.reset.withFetchWord 16 0xCB37) := by
  rfl

/-- The row of the prefix byte, the word's missing second byte being 0x00 (log 8). -/
theorem test_withFetchWord_prefixCb :
    step (State.reset.withFetchWord 8 0xCB) = exec .prefixCb (State.reset.withFetchWord 8 0xCB) := by
  rfl

/-- 30_encoding.md R94, R95. -/
theorem test_spellings : spellings (.ldhAtNA 0x4F) = ["LDH (0x4F),A", "LD (0xFF00+0x4F),A"] ∧
    spellings (.jpNzNn 0x01AB) = ["JP NZ,0x01AB"] ∧ spellings .jpHl = ["JP HL", "JP (HL)"] := by decide

/-! ### One step: spec/95_test_vectors.md

The vector's number stands in the name; each checks the cycle count and one or two fields. -/

/-- The start state of the vectors: reset, `pc` at 0xC000. -/
def start : State := { State.reset with pc := 0xC000 }

/-- `bytes` at `pc`, one step, what `view` sees of the next state, the reported cycles. -/
def outcome {α : Type} (bytes : List Byte) (s : State) (view : State → α) : Option (α × Option Byte) :=
  let s := s.placeBytes s.pc bytes
  match step s with
  | .next t => some (view t, stepCycles s)
  | _ => none

theorem test_V1 : outcome [0x41] start
    (fun t => t.b) = some (0x13, some 4) := by decide

theorem test_V5 : outcome [0x66] (({ start with h := 0xC1, l := 0x00 } : State).setByte 0xC100 0x12)
    (fun t => t.h) = some (0x12, some 8) := by decide

theorem test_V8 : outcome [0x74] { start with h := 0xC1, l := 0xF0 }
    (fun t => t.byteAt 0xC1F0) = some (0xC1, some 8) := by decide

theorem test_V11 : outcome [0x2E, 0xFF] start
    (fun t => t.l) = some (0xFF, some 8) := by decide

theorem test_V12 : outcome [0x36, 0xFF] { start with h := 0xC1, l := 0x23 }
    (fun t => t.byteAt 0xC123) = some (0xFF, some 12) := by decide

theorem test_V13 : outcome [0x0A] (start.setByte 0x0013 0x77)
    (fun t => t.a) = some (0x77, some 8) := by decide

theorem test_V14 : outcome [0x1A] (start.setByte 0x00D8 0x99)
    (fun t => t.a) = some (0x99, some 8) := by decide

theorem test_V15 : outcome [0x02] { start with b := 0xC1, c := 0x00 }
    (fun t => t.byteAt 0xC100) = some (0x01, some 8) := by decide

theorem test_V16 : outcome [0x02] { start with collab := .restricted }
    (fun t => t.fault) = some (some (.memoryWriteError 0x0013 0x01), none) := by decide

theorem test_V17 : outcome [0x12] { start with a := 0xB0, d := 0xC1, e := 0x01 }
    (fun t => t.byteAt 0xC101) = some (0xB0, some 8) := by decide

theorem test_V18 : outcome [0xFA, 0x34, 0x12] (start.setByte 0x1234 0xAB)
    (fun t => t.a) = some (0xAB, some 16) := by decide

theorem test_V20 : outcome [0xEA, 0x00, 0xC1] start
    (fun t => t.byteAt 0xC100) = some (0x01, some 16) := by decide

theorem test_V23 : outcome [0x22] { start with a := 0x09, h := 0xFF, l := 0xFF }
    (fun t => (t.byteAt 0xFFFF, t.h)) = some ((0x09, 0x00), some 8) := by decide

theorem test_V24 : outcome [0x2A] (start.setByte 0x014D 0x3C)
    (fun t => (t.a, t.l)) = some ((0x3C, 0x4E), some 8) := by decide

theorem test_V26 : outcome [0x32] { start with a := 0x07, h := 0x00, l := 0x00 }
    (fun t => (t.byteAt 0x0000, t.h)) = some ((0x07, 0xFF), some 8) := by decide

theorem test_V27 : outcome [0x3A] (({ start with h := 0xC0, l := 0x10 } : State).setByte 0xC010 0x07)
    (fun t => (t.a, t.l)) = some ((0x07, 0x0F), some 8) := by decide

theorem test_V28 : outcome [0xE0, 0x40] { start with a := 0x91 }
    (fun t => t.byteAt 0xFF40) = some (0x91, some 12) := by decide

theorem test_V31 : outcome [0xE0, 0xFF] start
    (fun t => t.fault) = some (some (.highPageRange 0xFFFF), none) := by decide

theorem test_V32 : outcome [0xF0, 0x44] (start.setByte 0xFF44 0x90)
    (fun t => t.a) = some (0x90, some 12) := by decide

theorem test_V34 : outcome [0xE2] start
    (fun t => t.byteAt 0xFF13) = some (0x01, some 8) := by decide

theorem test_V36 : outcome [0xF2] (({ start with c := 0x00 } : State).setByte 0xFF00 0xCF)
    (fun t => t.a) = some (0xCF, some 8) := by decide

theorem test_V38 : outcome [0x01, 0x34, 0x12] start
    (fun t => (t.b, t.c)) = some ((0x12, 0x34), some 12) := by decide

theorem test_V41 : outcome [0x31, 0x00, 0xD0] start
    (fun t => t.sp) = some (0xD000, some 12) := by decide

theorem test_V43 : outcome [0x08, 0xFF, 0xFF] { start with sp := 0x1234 }
    (fun t => (t.byteAt 0x0000, t.byteAt 0xFFFF)) = some ((0x12, 0x34), some 20) := by decide

theorem test_V44 : outcome [0xF9] { start with h := 0xD0, l := 0x00 }
    (fun t => t.sp) = some (0xD000, some 8) := by decide

theorem test_V47 : outcome [0xF8, 0x01] { start with sp := 0x00FF }
    (fun t => (t.f, t.l)) = some ((0x30, 0x00), some 12) := by decide

theorem test_V48 : outcome [0xF8, 0xFF] { start with sp := 0x0000 }
    (fun t => (t.f, t.h)) = some ((0x00, 0xFF), some 12) := by decide

theorem test_V51 : outcome [0xF5] start
    (fun t => (t.byteAt 0xFFFC, t.sp)) = some ((0xB0, 0xFFFC), some 16) := by decide

theorem test_V52 : outcome [0xD5] { start with d := 0xAB, e := 0xCD, sp := 0x0001 }
    (fun t => (t.byteAt 0x0000, t.sp)) = some ((0xAB, 0xFFFF), some 16) := by decide

theorem test_V54 : outcome [0xC1] (({ start with b := 0xFF, c := 0xFF, sp := 0xFFFC } : State).setByte 0xFFFC 0x13 |>.setByte 0xFFFD 0x00)
    (fun t => (t.b, t.c)) = some ((0x00, 0x13), some 12) := by decide

theorem test_V56 : outcome [0xE1] (({ start with sp := 0xFFFF } : State).setByte 0x0000 0x22 |>.setByte 0xFFFF 0x11)
    (fun t => (t.h, t.l)) = some ((0x22, 0x11), some 12) := by decide

theorem test_V57 : outcome [0xF1] (({ start with sp := 0xC100 } : State).setByte 0xC100 0xFF |>.setByte 0xC101 0x12)
    (fun t => (t.a, t.f)) = some ((0x12, 0xF0), some 12) := by decide

theorem test_V61 : outcome [0x3C] { start with a := 0xFF, f := 0x10 }
    (fun t => (t.a, t.f)) = some ((0x00, 0xB0), some 4) := by decide

theorem test_V64 : outcome [0x34] (({ start with f := 0x00, h := 0xC1, l := 0x00 } : State).setByte 0xC100 0x0F)
    (fun t => (t.byteAt 0xC100, t.f)) = some ((0x10, 0x20), some 12) := by decide

theorem test_V66 : outcome [0x34] (({ start with collab := .restricted, f := 0x00, h := 0x20, l := 0x00 } : State).setByte 0x2000 0x0F)
    (fun t => t.fault) = some (some (.memoryWriteError 0x2000 0x10), none) := by decide

theorem test_V67 : outcome [0x05] start
    (fun t => (t.f, t.b)) = some ((0x70, 0xFF), some 4) := by decide

theorem test_V69 : outcome [0x1D] { start with f := 0x10, e := 0x10 }
    (fun t => (t.f, t.e)) = some ((0x70, 0x0F), some 4) := by decide

theorem test_V72 : outcome [0x35] (({ start with f := 0x10, h := 0xC1, l := 0x00 } : State).setByte 0xC100 0x00)
    (fun t => (t.byteAt 0xC100, t.f)) = some ((0xFF, 0x70), some 12) := by decide

theorem test_V76 : outcome [0x87] { start with a := 0x88 }
    (fun t => (t.a, t.f)) = some ((0x10, 0x30), some 4) := by decide

theorem test_V78 : outcome [0x86] (({ start with h := 0xC1, l := 0x00 } : State).setByte 0xC100 0x0F)
    (fun t => (t.a, t.f)) = some ((0x10, 0x20), some 8) := by decide

theorem test_V79 : outcome [0xC6, 0xFF] start
    (fun t => t.a) = some (0x00, some 8) := by decide

theorem test_V83 : outcome [0x88] { start with a := 0x0E, f := 0x10, b := 0x01 }
    (fun t => (t.a, t.f)) = some ((0x10, 0x20), some 4) := by decide

theorem test_V87 : outcome [0x8E] (({ start with a := 0xE1, f := 0x10, h := 0xC1, l := 0x00 } : State).setByte 0xC100 0x1E)
    (fun t => (t.a, t.f)) = some ((0x00, 0xB0), some 8) := by decide

theorem test_V88 : outcome [0xCE, 0x3B] { start with a := 0xE1, f := 0x10 }
    (fun t => t.a) = some (0x1D, some 8) := by decide

theorem test_V90 : outcome [0x90] { start with a := 0x00, b := 0x01 }
    (fun t => (t.a, t.f)) = some ((0xFF, 0x70), some 4) := by decide

theorem test_V93 : outcome [0x96] (({ start with a := 0x3E, h := 0xC1, l := 0x00 } : State).setByte 0xC100 0x40)
    (fun t => (t.a, t.f)) = some ((0xFE, 0x50), some 8) := by decide

theorem test_V94 : outcome [0xD6, 0x0F] { start with a := 0x3E }
    (fun t => (t.a, t.f)) = some ((0x2F, 0x60), some 8) := by decide

theorem test_V99 : outcome [0x98] { start with a := 0x10, f := 0x10, b := 0x0F }
    (fun t => (t.a, t.f)) = some ((0x00, 0xE0), some 4) := by decide

theorem test_V100 : outcome [0x9E] (({ start with a := 0x3B, f := 0x10, h := 0xC1, l := 0x00 } : State).setByte 0xC100 0x4F)
    (fun t => (t.a, t.f)) = some ((0xEB, 0x70), some 8) := by decide

theorem test_V101 : outcome [0xDE, 0x3A] { start with a := 0x3B, f := 0x10 }
    (fun t => (t.a, t.f)) = some ((0x00, 0xC0), some 8) := by decide

theorem test_V102 : outcome [0xA5] { start with a := 0x5A, l := 0x3F }
    (fun t => (t.a, t.f)) = some ((0x1A, 0x20), some 4) := by decide

theorem test_V104 : outcome [0xA6] { start with a := 0x5A, h := 0xC1, l := 0x00 }
    (fun t => (t.a, t.f)) = some ((0x00, 0xA0), some 8) := by decide

theorem test_V105 : outcome [0xE6, 0x38] { start with a := 0x5A }
    (fun t => (t.a, t.f)) = some ((0x18, 0x20), some 8) := by decide

theorem test_V107 : outcome [0xAF] { start with a := 0x12, f := 0x70 }
    (fun t => (t.a, t.f)) = some ((0x00, 0x80), some 4) := by decide

theorem test_V108 : outcome [0xAE] (({ start with a := 0xFF, h := 0xC1, l := 0x00 } : State).setByte 0xC100 0x8A)
    (fun t => (t.a, t.f)) = some ((0x75, 0x00), some 8) := by decide

theorem test_V109 : outcome [0xEE, 0xFF] { start with a := 0xFF }
    (fun t => (t.a, t.f)) = some ((0x00, 0x80), some 8) := by decide

theorem test_V110 : outcome [0xB1] { start with a := 0x5A, c := 0x0F }
    (fun t => (t.a, t.f)) = some ((0x5F, 0x00), some 4) := by decide

theorem test_V112 : outcome [0xB6] { start with a := 0x00, h := 0xC1, l := 0x00 }
    (fun t => t.f) = some (0x80, some 8) := by decide

theorem test_V113 : outcome [0xF6, 0x03] { start with a := 0x5A }
    (fun t => (t.a, t.f)) = some ((0x5B, 0x00), some 8) := by decide

theorem test_V114 : outcome [0xB8] { start with a := 0x3C, b := 0x2F }
    (fun t => t.f) = some (0x60, some 4) := by decide

theorem test_V117 : outcome [0xBE] (({ start with a := 0x3C, h := 0xC1, l := 0x00 } : State).setByte 0xC100 0x40)
    (fun t => t.f) = some (0x50, some 8) := by decide

theorem test_V118 : outcome [0xFE, 0x3C] { start with a := 0x3C }
    (fun t => t.f) = some (0xC0, some 8) := by decide

theorem test_V121 : outcome [0x27] { start with a := 0x9A, f := 0x00 }
    (fun t => (t.a, t.f)) = some ((0x00, 0x90), some 4) := by decide

theorem test_V122 : outcome [0x27] { start with a := 0x0F, f := 0x60 }
    (fun t => (t.a, t.f)) = some ((0x09, 0x40), some 4) := by decide

theorem test_V126 : outcome [0x2F] { start with a := 0x35, f := 0x00 }
    (fun t => (t.a, t.f)) = some ((0xCA, 0x60), some 4) := by decide

theorem test_V128 : outcome [0x37] { start with f := 0xE0 }
    (fun t => t.f) = some (0x90, some 4) := by decide

theorem test_V129 : outcome [0x3F] { start with f := 0xF0 }
    (fun t => t.f) = some (0x80, some 4) := by decide

theorem test_V132 : outcome [0x03] { start with f := 0x00, b := 0xFF, c := 0xFF }
    (fun t => (t.b, t.c)) = some ((0x00, 0x00), some 8) := by decide

theorem test_V134 : outcome [0x33] { start with sp := 0xFFFF }
    (fun t => t.sp) = some (0x0000, some 8) := by decide

theorem test_V136 : outcome [0x2B] { start with h := 0x00, l := 0x00 }
    (fun t => (t.h, t.l)) = some ((0xFF, 0xFF), some 8) := by decide

theorem test_V138 : outcome [0x3B] { start with sp := 0x0000 }
    (fun t => t.sp) = some (0xFFFF, some 8) := by decide

theorem test_V139 : outcome [0x09] { start with f := 0x80, b := 0x06, c := 0x05, h := 0x8A, l := 0x23 }
    (fun t => (t.f, t.h)) = some ((0xA0, 0x90), some 8) := by decide

theorem test_V143 : outcome [0x39] { start with f := 0x80, h := 0x00, l := 0x01, sp := 0xFFFF }
    (fun t => (t.f, t.l)) = some ((0xB0, 0x00), some 8) := by decide

theorem test_V147 : outcome [0xE8, 0xFE] start
    (fun t => (t.f, t.sp)) = some ((0x30, 0xFFFC), some 16) := by decide

theorem test_V148 : outcome [0xE8, 0x80] { start with sp := 0x0000 }
    (fun t => (t.f, t.sp)) = some ((0x00, 0xFF80), some 16) := by decide

theorem test_V150 : outcome [0x07] { start with a := 0x00 }
    (fun t => t.f) = some (0x00, some 4) := by decide

theorem test_V151 : outcome [0x0F] { start with f := 0x00 }
    (fun t => (t.a, t.f)) = some ((0x80, 0x10), some 4) := by decide

theorem test_V154 : outcome [0x17] { start with a := 0x95, f := 0x10 }
    (fun t => t.a) = some (0x2B, some 4) := by decide

theorem test_V156 : outcome [0x1F] { start with a := 0x81, f := 0x00 }
    (fun t => (t.a, t.f)) = some ((0x40, 0x10), some 4) := by decide

theorem test_V159 : outcome [0xCB, 0x00] { start with b := 0x85 }
    (fun t => (t.f, t.b)) = some ((0x10, 0x0B), some 8) := by decide

theorem test_V161 : outcome [0xCB, 0x06] { start with h := 0xC1, l := 0x00 }
    (fun t => (t.byteAt 0xC100, t.f)) = some ((0x00, 0x80), some 16) := by decide

theorem test_V162 : outcome [0xCB, 0x09] { start with c := 0x01 }
    (fun t => (t.f, t.c)) = some ((0x10, 0x80), some 8) := by decide

theorem test_V163 : outcome [0xCB, 0x0E] (({ start with f := 0x00, h := 0xC1, l := 0x00 } : State).setByte 0xC100 0x03)
    (fun t => (t.byteAt 0xC100, t.f)) = some ((0x81, 0x10), some 16) := by decide

theorem test_V165 : outcome [0xCB, 0x10] { start with f := 0x10 }
    (fun t => (t.f, t.b)) = some ((0x00, 0x01), some 8) := by decide

theorem test_V166 : outcome [0xCB, 0x16] (({ start with f := 0x00, h := 0xC1, l := 0x00 } : State).setByte 0xC100 0x11)
    (fun t => t.byteAt 0xC100) = some (0x22, some 16) := by decide

theorem test_V168 : outcome [0xCB, 0x18] { start with f := 0x10 }
    (fun t => (t.f, t.b)) = some ((0x00, 0x80), some 8) := by decide

theorem test_V169 : outcome [0xCB, 0x1E] (({ start with f := 0x00, h := 0xC1, l := 0x00 } : State).setByte 0xC100 0x8A)
    (fun t => t.byteAt 0xC100) = some (0x45, some 16) := by decide

theorem test_V171 : outcome [0xCB, 0x22] { start with d := 0x80 }
    (fun t => (t.f, t.d)) = some ((0x90, 0x00), some 8) := by decide

theorem test_V172 : outcome [0xCB, 0x26] (({ start with h := 0xC1, l := 0x00 } : State).setByte 0xC100 0xFF)
    (fun t => (t.byteAt 0xC100, t.f)) = some ((0xFE, 0x10), some 16) := by decide

theorem test_V173 : outcome [0xCB, 0x2F] { start with a := 0x8A }
    (fun t => (t.a, t.f)) = some ((0xC5, 0x00), some 8) := by decide

theorem test_V176 : outcome [0xCB, 0x2E] (({ start with h := 0xC1, l := 0x00 } : State).setByte 0xC100 0x01)
    (fun t => (t.byteAt 0xC100, t.f)) = some ((0x00, 0x90), some 16) := by decide

theorem test_V177 : outcome [0xCB, 0x37] { start with a := 0xF1 }
    (fun t => (t.a, t.f)) = some ((0x1F, 0x00), some 8) := by decide

theorem test_V179 : outcome [0xCB, 0x36] (({ start with h := 0xC1, l := 0x00 } : State).setByte 0xC100 0xA5)
    (fun t => (t.byteAt 0xC100, t.f)) = some ((0x5A, 0x00), some 16) := by decide

theorem test_V180 : outcome [0xCB, 0x3F] start
    (fun t => (t.a, t.f)) = some ((0x00, 0x90), some 8) := by decide

theorem test_V182 : outcome [0xCB, 0x3E] (({ start with h := 0xC1, l := 0x00 } : State).setByte 0xC100 0xFF)
    (fun t => (t.byteAt 0xC100, t.f)) = some ((0x7F, 0x10), some 16) := by decide

theorem test_V184 : outcome [0xCB, 0x7C] { start with f := 0x10, h := 0x7F }
    (fun t => t.f) = some (0xB0, some 8) := by decide

theorem test_V186 : outcome [0xCB, 0x46] (({ start with f := 0x00, h := 0xC1, l := 0x00 } : State).setByte 0xC100 0xFE)
    (fun t => t.f) = some (0xA0, some 12) := by decide

theorem test_V188 : outcome [0xCB, 0x87] { start with a := 0xFF }
    (fun t => t.a) = some (0xFE, some 8) := by decide

theorem test_V190 : outcome [0xCB, 0xBE] (({ start with h := 0xC1, l := 0x00 } : State).setByte 0xC100 0xFF)
    (fun t => t.byteAt 0xC100) = some (0x7F, some 16) := by decide

theorem test_V192 : outcome [0xCB, 0xCB] { start with e := 0x00 }
    (fun t => t.e) = some (0x02, some 8) := by decide

theorem test_V194 : outcome [0xCB, 0xDE] { start with h := 0xC1, l := 0x00 }
    (fun t => t.byteAt 0xC100) = some (0x08, some 16) := by decide

theorem test_V195 : outcome [0xC3, 0x50, 0x01] start
    (fun t => t.pc) = some (0x0150, some 16) := by decide

theorem test_V197 : outcome [0xC2, 0x00, 0x02] { start with f := 0x80 }
    (fun t => t.pc) = some (0xC003, some 12) := by decide

theorem test_V204 : outcome [0xDA, 0x00, 0x02] { start with f := 0x10 }
    (fun t => t.pc) = some (0x0200, some 16) := by decide

theorem test_V205 : outcome [0xE9] start
    (fun t => t.pc) = some (0x014D, some 4) := by decide

theorem test_V206 : outcome [0x18, 0xF6] { start with pc := 0x8200 }
    (fun t => t.pc) = some (0x81F8, some 12) := by decide

theorem test_V211 : outcome [0x18, 0xFD] { start with pc := 0x0000 }
    (fun t => t.pc) = some (0xFFFF, some 12) := by decide

theorem test_V213 : outcome [0x20, 0xFB] { start with f := 0x80, pc := 0x0150 }
    (fun t => t.pc) = some (0x0152, some 8) := by decide

theorem test_V220 : outcome [0x38, 0xFB] { start with f := 0x10, pc := 0x0150 }
    (fun t => t.pc) = some (0x014D, some 12) := by decide

theorem test_V221 : outcome [0xCD, 0x88, 0x99] { start with sp := 0xD000, pc := 0x8200 }
    (fun t => (t.pc, t.byteAt 0xCFFE)) = some ((0x9988, 0x03), some 24) := by decide

theorem test_V223 : outcome [0xCD, 0x00, 0x02] { start with collab := .restricted, sp := 0x8001 }
    (fun t => t.fault) = some (some (.memoryWriteError 0x7FFF 0x03), none) := by decide

theorem test_V227 : outcome [0xCC, 0x00, 0x40] { start with f := 0x70 }
    (fun t => t.pc) = some (0xC003, some 12) := by decide

theorem test_V228 : outcome [0xD4, 0x34, 0x12] { start with f := 0x80 }
    (fun t => (t.pc, t.byteAt 0xFFFC)) = some ((0x1234, 0x03), some 24) := by decide

theorem test_V229 : outcome [0xC9] (({ start with sp := 0xFFFC } : State).setByte 0xFFFC 0x03 |>.setByte 0xFFFD 0x82)
    (fun t => (t.pc, t.sp)) = some ((0x8203, 0xFFFE), some 16) := by decide

theorem test_V231 : outcome [0xC0] (({ start with f := 0x80, sp := 0xCFFE, pc := 0x0000 } : State).setByte 0xCFFE 0x50 |>.setByte 0xCFFF 0x80)
    (fun t => t.pc) = some (0x0001, some 8) := by decide

theorem test_V235 : outcome [0xD8] (({ start with f := 0x10, sp := 0xCFFE } : State).setByte 0xCFFE 0x50 |>.setByte 0xCFFF 0x80)
    (fun t => (t.pc, t.sp)) = some ((0x8050, 0xD000), some 20) := by decide

theorem test_V236 : outcome [0xD9] (({ start with sp := 0xFFFC } : State).setByte 0xFFFC 0x03 |>.setByte 0xFFFD 0x82)
    (fun t => (t.pc, t.byteAt 0xFFFF)) = some ((0x8203, 0x01), some 16) := by decide

theorem test_V237 : outcome [0xEF] { start with pc := 0x0150 }
    (fun t => (t.pc, t.byteAt 0xFFFC)) = some ((0x0028, 0x51), some 16) := by decide

theorem test_V239 : outcome [0xFF] { start with sp := 0xD000 }
    (fun t => (t.pc, t.byteAt 0xCFFE)) = some ((0x0038, 0x01), some 16) := by decide

theorem test_V241 : outcome [0x00] { start with pc := 0xFFFF }
    (fun t => t.pc) = some (0x0000, some 4) := by decide

theorem test_V242 : outcome [0xF3] (start.setByte 0xFFFF 0x55)
    (fun t => t.byteAt 0xFFFF) = some (0x00, some 4) := by decide

theorem test_V244 : outcome [0xFB] start
    (fun t => t.byteAt 0xFFFF) = some (0x01, some 4) := by decide

theorem test_V245 : outcome [0x76] { start with pc := 0x0150 }
    (fun t => t.fault) = some (some (.unimplementedOpcode 0x76 0x0150), none) := by decide

theorem test_V246 : outcome [0x10, 0x00] { start with pc := 0x0200 }
    (fun t => t.fault) = some (some (.unimplementedOpcode 0x10 0x0200), none) := by decide

theorem test_V249 : outcome [0xDD] start
    (fun t => t.fault) = some (some (.unimplementedOpcode 0xDD 0xC000), none) := by decide

theorem test_V258 : outcome [0xCB] (({ start with a := 0xF1, pc := 0xFFFF } : State).setByte 0x0000 0x37)
    (fun t => (t.a, t.f)) = some ((0x1F, 0x00), some 8) := by decide

/-- 20_memory.md R53, 10_state.md R30: a state-dependent collaborator decides the second read of a pop from the state the
first read left it in. -/
theorem test_stateDependent_reads_move_its_state :
    let s : State := { State.reset with collab := .stateDependent 3, collabState := 5 }
    (s.afterRead 0xFFFE).readFails 0xFFFF =
      Config.readRefused 3 (Config.stateAfterRead 3 5 [] 0xFFFE) [] 0xFFFF := rfl

/-! ### Witnesses: every hypothesis of every obligation is met, clause by clause -/

/-- Reset with a collaborator that refuses the listed reads and writes. -/
def refusing (reads writes : List Addr) : State := { State.reset with collab := .fixed reads writes }

/-- Reset with `bytes` at 0x0100, where `pc` stands. -/
def loaded (bytes : List Byte) : State := State.reset.placeBytes 0x0100 bytes

/-- Reset with a latched condition. -/
def failed : State := { State.reset with fault := some (.highPageRange 0xFFFF) }

/-- Whether each of the `n` reads from `addr` is answered. -/
def answers (s : State) (addr : Addr) (n : Nat) : Bool :=
  (List.range n).all fun k => !(s.afterReads addr k).readFails (addr + BitVec.ofNat 16 k)

theorem readsAnswered_of_answers (s : State) (addr : Addr) (n : Nat) (h : answers s addr n = true) :
    ReadsAnswered s addr n := by
  intro k hk
  simpa using List.all_eq_true.mp h k (List.mem_range.mpr hk)

theorem witness_ResetRegisterValues :
    (∃ s, s = State.reset) ∧ (∃ s, s = failed.resetEvent [(0x0000, 0x3E)] 7) ∧
      ∃ s, State.powerOn [0x3E, 0x42] .permissive 0 Config.suggestedParams = some s := ⟨⟨_, rfl⟩, ⟨_, rfl⟩, ⟨_, rfl⟩⟩

theorem witness_ResetControlStateAndMemory :
    (List.replicate 65536 (0x00 : Byte)).length ≤ 65536 ∧ 65536 < (List.replicate 65537 (0x00 : Byte)).length := by
  rw [List.length_replicate, List.length_replicate]
  omega

theorem witness_PairReadAndWrite : Pair.bc ≠ Pair.hl ∧ Pair.hl ≠ Pair.af := by decide

theorem witness_DecodeOfEncode : WellFormed (.cpN 0xFF) = true ∧ WellFormed (.jpNn 0xFFFF) = true ∧ WellFormed .set7A = true := by
  decide

theorem witness_EncodeOfDecode : decode [0xCB, 0xFF, 0x00] = .instr .set7A [0x00] ∧ decode [0xCB] = .instr .prefixCb [] := by
  decide

theorem witness_FirstByteDecidesLength :
    opcodeLength 0xC3 ≤ [(0x34 : Byte), 0x12].length + 1 ∧ [(0x34 : Byte)].length + 1 < opcodeLength 0xC3 ∧
      (0xC3 : Byte) ≠ 0xCB := by decide

theorem witness_StepRunsDecoded :
    (loaded [0x3E, 0x42]).fault = none ∧ WellFormed (.ldAN 0x42) = true ∧
      BytesAt (loaded [0x3E, 0x42]) (loaded [0x3E, 0x42]).pc [0x3E, 0x42, 0x00] ∧
      decode [0x3E, 0x42, 0x00] = .instr (.ldAN 0x42) [0x00] :=
  ⟨rfl, rfl, ⟨by decide, readsAnswered_of_answers _ _ _ (by decide)⟩, rfl⟩

/-- The bytes straddle 0xFFFF. -/
theorem witness_StepPerformsInstructionAtPc :
    let s := ({ State.reset with pc := 0xFFFF } : State).placeBytes 0xFFFF [0x3E, 0x42]
    s.fault = none ∧ WellFormed (.ldAN 0x42) = true ∧ BytesAt s s.pc (encode (.ldAN 0x42)) :=
  ⟨rfl, rfl, by decide, readsAnswered_of_answers _ _ _ (by decide)⟩

theorem witness_StepCompletesOrRaises : State.reset.fault = none := by decide

/-- A refused read of the opcode, the second byte and the third byte of `JP nn`; all three answered, the fourth refused. -/
theorem witness_FetchFailureIsReported :
    (let s := refusing [0x0100] [];
      s.fault = none ∧ ReadsAnswered s s.pc 0 ∧ (s.afterReads s.pc 0).readFails (s.pc + BitVec.ofNat 16 0) = true) ∧
    (let s : State := { loaded [0xC3] with collab := .fixed [0x0101] [] };
      s.fault = none ∧ 1 < opcodeLength (s.byteAt s.pc) ∧ ReadsAnswered s s.pc 1 ∧
        (s.afterReads s.pc 1).readFails (s.pc + BitVec.ofNat 16 1) = true) ∧
    (let s : State := { loaded [0xC3] with collab := .fixed [0x0102] [] };
      s.fault = none ∧ 2 < opcodeLength (s.byteAt s.pc) ∧ ReadsAnswered s s.pc 2 ∧
        (s.afterReads s.pc 2).readFails (s.pc + BitVec.ofNat 16 2) = true) ∧
    (let s : State := { loaded [0xC3] with collab := .fixed [0x0103] [] };
      s.fault = none ∧ ReadsAnswered s s.pc (opcodeLength (s.byteAt s.pc))) :=
  ⟨⟨rfl, readsAnswered_of_answers _ _ _ (by decide), by decide⟩,
    ⟨rfl, by decide, readsAnswered_of_answers _ _ _ (by decide), by decide⟩,
    ⟨rfl, by decide, readsAnswered_of_answers _ _ _ (by decide), by decide⟩,
    rfl, readsAnswered_of_answers _ _ _ (by decide)⟩

theorem witness_LatchIsLeftOnlyByReset :
    failed.fault = some (.highPageRange 0xFFFF) ∧ failed.fault.isSome = true ∧ ∃ t, exec .nop failed = .next t :=
  ⟨rfl, rfl, _, rfl⟩

theorem witness_StepKeepsInvariant : Inv State.reset ∧ ∃ t, step State.reset = .next t := ⟨⟨rfl, by decide⟩, _, rfl⟩

theorem witness_ResetHasInvariant :
    (∃ s, State.powerOn [0x00, 0x3E] .restricted 0 Config.suggestedParams = some s) ∧
      Memory.wf [(0x0000, 0x3E), (0xFFFF, 0x01)] = true := ⟨⟨_, rfl⟩, by decide⟩

theorem witness_StepNeverChangesArguments :
    (∃ t, step (refusing [0x0100] []) = .next t) ∧ ∀ tag, (refusing [0x0100] []).collab ≠ .stateDependent tag :=
  ⟨⟨_, rfl⟩, fun _ h => by cases h⟩

/-- Each collaborator; the boundary of the restricted one, 0x7FFF refused and 0x8000 not, with the step that raises and the
step that completes; the ends of the address space in the fixed sets and out of them. -/
theorem witness_NamedCollaboratorErrors :
    (State.reset.fault = none ∧ State.reset.collab = .permissive ∧ ∃ t, step State.reset = .next t) ∧
    (let s : State := { loaded [0x02] with b := 0x7F, c := 0xFF, collab := .restricted };
      s.fault = none ∧ s.collab = .restricted ∧ s.writeFails 0x7FFF 0x01 = true ∧
        ∃ t, step s = .next t ∧ t.fault = some (.memoryWriteError 0x7FFF 0x01)) ∧
    (let s : State := { loaded [0x02] with b := 0x80, c := 0x00, collab := .restricted };
      s.fault = none ∧ s.collab = .restricted ∧ s.writeFails 0x8000 0x01 = false ∧
        ∃ t, step s = .next t ∧ t.fault = none) ∧
    (let s := refusing [0x0000] [0xFFFF];
      s.collab = .fixed [0x0000] [0xFFFF] ∧ s.readFails 0x0000 = true ∧ s.readFails 0xFFFF = false ∧
        s.writeFails 0xFFFF 0x01 = true ∧ s.writeFails 0x0000 0x01 = false) :=
  ⟨⟨rfl, rfl, _, rfl⟩, ⟨rfl, rfl, by decide, _, rfl, rfl⟩, ⟨rfl, rfl, by decide, _, rfl, rfl⟩, by decide⟩

/-- At the top of the address space. -/
theorem witness_PcGrowsByLength :
    let s : State := { State.reset with pc := 0xFFFF }
    WellFormed (.ldAN 0x42) = true ∧ ¬ TransfersControl (.ldAN 0x42) ∧
      ∃ t, exec (.ldAN 0x42) s = .next t ∧ t.fault = none := by
  refine ⟨rfl, ?_, _, rfl, rfl⟩
  rintro (⟨_, h⟩ | ⟨cc, _, h⟩ | h | ⟨_, h⟩ | ⟨cc, _, h⟩ | ⟨_, h⟩ | ⟨cc, _, h⟩ | h | ⟨cc, h⟩ | h | ⟨y, h⟩)
  case inr.inr.inr.inr.inr.inr.inr.inr.inr.inr => revert y; decide
  all_goals first | cases h | (cases cc <;> cases h)

theorem witness_SpMovedOnlyByItsInstructions :
    WellFormed (.ldHlSpE 0xFF) = true ∧ ¬ WritesSp (.ldHlSpE 0xFF) ∧
      ∃ t, exec (.ldHlSpE 0xFF) State.reset = .next t ∧ t.fault = none := by
  refine ⟨rfl, ?_, _, rfl, rfl⟩
  rintro (⟨_, h⟩ | h | ⟨_, h⟩ | h | h | ⟨qq, h⟩ | ⟨qq, h⟩ | ⟨_, h⟩ | ⟨cc, _, h⟩ | h | ⟨cc, h⟩ | h | ⟨y, h⟩)
  case inr.inr.inr.inr.inr.inr.inr.inr.inr.inr.inr.inr => revert y; decide
  all_goals first | cases h | (cases qq <;> cases h) | (cases cc <;> cases h)

theorem witness_IllegalOpcodesRaise :
    (loaded [0xD3]).fault = none ∧ (loaded [0xD3]).readFails (loaded [0xD3]).pc = false ∧
      (loaded [0xD3]).byteAt (loaded [0xD3]).pc = 0xD3 ∧ (loaded [0xFD]).byteAt (loaded [0xFD]).pc = 0xFD := by decide

theorem witness_HaltAndStopRaise :
    (loaded [0x76]).fault = none ∧ (loaded [0x76]).readFails (loaded [0x76]).pc = false ∧
      (loaded [0x76]).byteAt (loaded [0x76]).pc = 0x76 ∧ (loaded [0x10]).byteAt (loaded [0x10]).pc = 0x10 := by decide

theorem witness_PrefixPerformsExtended :
    (let u := State.reset.afterRead (State.reset.pc + 1);
      State.reset.readFails (State.reset.pc + 1) = false ∧ u.readFails State.reset.hl = false ∧
        ∀ v, (u.afterRead State.reset.hl).writeFails State.reset.hl v = false) ∧
    (refusing [0x0101] []).readFails ((refusing [0x0101] []).pc + 1) = true :=
  ⟨⟨rfl, rfl, fun _ => rfl⟩, rfl⟩

theorem witness_LdRegAtHl :
    State.reset.readFails State.reset.hl = false ∧ (refusing [0x014D] []).readFails (refusing [0x014D] []).hl = true := by
  decide

theorem witness_LdAtHlReg :
    State.reset.writeFails State.reset.hl (State.reset.reg .h) = false ∧
      (refusing [] [0x014D]).writeFails (refusing [] [0x014D]).hl ((refusing [] [0x014D]).reg .h) = true := by decide

theorem witness_LdAtHlImm :
    State.reset.writeFails State.reset.hl 0xFF = false ∧
      (refusing [] [0x014D]).writeFails (refusing [] [0x014D]).hl 0xFF = true := by decide

theorem witness_LoadAccumulator :
    (State.reset.readFails (State.reset.pair .bc) = false ∧ State.reset.readFails (State.reset.pair .de) = false ∧
      State.reset.readFails 0xFFFF = false) ∧
    (let s := refusing [0x0013, 0x00D8, 0xFFFF] [];
      s.readFails (s.pair .bc) = true ∧ s.readFails (s.pair .de) = true ∧ s.readFails 0xFFFF = true) := by decide

theorem witness_StoreAccumulator :
    (State.reset.writeFails (State.reset.pair .bc) State.reset.a = false ∧
      State.reset.writeFails (State.reset.pair .de) State.reset.a = false ∧
      State.reset.writeFails 0xFFFF State.reset.a = false) ∧
    (let s := refusing [] [0x0013, 0x00D8, 0xFFFF];
      s.writeFails (s.pair .bc) s.a = true ∧ s.writeFails (s.pair .de) s.a = true ∧
        s.writeFails 0xFFFF s.a = true) := by decide

/-- HL at the end of its range. -/
theorem witness_LoadAccumulatorStepHl :
    let s : State := { State.reset with h := 0xFF, l := 0xFF }
    let u : State := { s with collab := .fixed [0xFFFF] [] }
    s.readFails s.hl = false ∧ u.readFails u.hl = true := by decide

theorem witness_StoreAccumulatorStepHl :
    let s : State := { State.reset with h := 0x00, l := 0x00 }
    let u : State := { s with collab := .fixed [] [0x0000] }
    s.writeFails s.hl s.a = false ∧ u.writeFails u.hl u.a = true := by decide

/-- Both forms; offset 0xFE, offset 0xFF with and without `LDH_ALLOW_FFFF`, a refused read. -/
theorem witness_HighPageLoads :
    ((Instr.ldhAAtN 0xFE = .ldhAAtN 0xFE ∧ (0xFE : Byte) ≠ 0xFF ∧ State.reset.readFails (0xFF00 + (0xFE : Byte).zeroExtend 16) = false) ∧
      (refusing [0xFFFE] []).readFails (0xFF00 + (0xFE : Byte).zeroExtend 16) = true) ∧
    (let s : State := { State.reset with c := 0xFF };
      (0xFF : Byte) = s.c ∧ s.params.ldhAllowFFFF = false) ∧
    (let s : State := { State.reset with c := 0xFF, params := { Config.suggestedParams with ldhAllowFFFF := true } };
      (0xFF : Byte) = s.c ∧ s.params.ldhAllowFFFF = true ∧ s.readFails (0xFF00 + (0xFF : Byte).zeroExtend 16) = false) := by
  decide

theorem witness_HighPageStores :
    (State.reset.writeFails (0xFF00 + (0xFE : Byte).zeroExtend 16) State.reset.a = false ∧
      (refusing [] [0xFFFE]).writeFails (0xFF00 + (0xFE : Byte).zeroExtend 16) (refusing [] [0xFFFE]).a = true) ∧
    (let s : State := { State.reset with c := 0xFF };
      (0xFF : Byte) = s.c ∧ s.params.ldhAllowFFFF = false) ∧
    (let s : State := { State.reset with c := 0xFF, params := { Config.suggestedParams with ldhAllowFFFF := true } };
      (0xFF : Byte) = s.c ∧ s.params.ldhAllowFFFF = true ∧
        s.writeFails (0xFF00 + (0xFF : Byte).zeroExtend 16) s.a = false) := by decide

theorem witness_LdReg16Imm : Reg16.hl ≠ Reg16.sp := by decide

/-- `nn` at the top of the address space: neither byte refused, the first, the second. -/
theorem witness_LdAtNnSp :
    (State.reset.writeFails 0xFFFF (loByte State.reset.sp) = false ∧
      (State.reset.afterWrite 0xFFFF (loByte State.reset.sp)).writeFails (0xFFFF + 1) (hiByte State.reset.sp) = false) ∧
    (refusing [] [0xFFFF]).writeFails 0xFFFF (loByte (refusing [] [0xFFFF]).sp) = true ∧
    (let s := refusing [] [0x0000];
      s.writeFails 0xFFFF (loByte s.sp) = false ∧
        (s.afterWrite 0xFFFF (loByte s.sp)).writeFails (0xFFFF + 1) (hiByte s.sp) = true) := by decide

/-- SP at 0x0001: neither byte of the push refused, the high byte's write, the low byte's write. -/
theorem witness_PushStoresPair :
    let s : State := { State.reset with sp := 0x0001 }
    let v := s.pair .af
    (s.writeFails (s.sp - 1) (hiByte v) = false ∧
      (s.afterWrite (s.sp - 1) (hiByte v)).writeFails (s.sp - 2) (loByte v) = false) ∧
    (let u : State := { s with collab := .fixed [] [0x0000] };
      u.writeFails (u.sp - 1) (hiByte v) = true) ∧
    (let u : State := { s with collab := .fixed [] [0xFFFF] };
      u.writeFails (u.sp - 1) (hiByte v) = false ∧
        (u.afterWrite (u.sp - 1) (hiByte v)).writeFails (u.sp - 2) (loByte v) = true) := by decide

/-- SP at 0xFFFF: neither read refused, the low byte's, the high byte's. -/
theorem witness_PopLoadsPair :
    let s : State := { State.reset with sp := 0xFFFF }
    (s.readFails s.sp = false ∧ (s.afterRead s.sp).readFails (s.sp + 1) = false) ∧
    (let u : State := { s with collab := .fixed [0xFFFF] [] };
      u.readFails u.sp = true) ∧
    (let u : State := { s with collab := .fixed [0x0000] [] };
      u.readFails u.sp = false ∧ (u.afterRead u.sp).readFails (u.sp + 1) = true) ∧
    Pair.hl ≠ Pair.af := by decide

theorem witness_PopAfterPush :
    (∃ t, exec (.push .af) State.reset = .next t ∧ t.fault = none ∧ t.readFails t.sp = false ∧
      (t.afterRead t.sp).readFails (t.sp + 1) = false) ∧ State.reset.f &&& 0x0F = 0 := ⟨⟨_, rfl, rfl, rfl, rfl⟩, by decide⟩

theorem witness_IncDecAtHl :
    let s : State := { State.reset with h := 0xFF, l := 0xFF }
    (s.readFails s.hl = false ∧ (s.afterRead s.hl).writeFails s.hl (BitVec.ofNat 8 ((s.byteAt s.hl).toNat + 1)) = false) ∧
    (let u : State := { s with collab := .fixed [0xFFFF] [] };
      u.readFails u.hl = true) ∧
    (let u : State := { s with collab := .fixed [] [0xFFFF] };
      u.readFails u.hl = false ∧ (u.afterRead u.hl).writeFails u.hl (BitVec.ofNat 8 ((u.byteAt u.hl).toNat + 255)) = true) := by decide

/-- For AddAndAdc, SubSbcAndCp and AndXorAndOr: the three sources of an operand, and a refused read of `(HL)`. -/
theorem witness_AluOperand :
    (AluSource.reg .a).readable State.reset ∧ AluSource.atHl.readable State.reset ∧
      (AluSource.imm 0xFF).readable State.reset ∧
      (refusing [0x014D] []).readFails (refusing [0x014D] []).hl = true := ⟨trivial, rfl, trivial, by decide⟩

theorem witness_IncDecReg16 : Reg16.bc ≠ Reg16.sp := by decide

theorem witness_AccumulatorRotates :
    (RotOp.rlc, Instr.rlca, (0x07 : Byte)) ∈ ([(.rlc, .rlca, 0x07), (.rrc, .rrca, 0x0F), (.rl, .rla, 0x17),
      (.rr, .rra, 0x1F)] : List (RotOp × Instr × Byte)) := by decide

theorem witness_RotateAtHl :
    (State.reset.readFails State.reset.hl = false ∧ (State.reset.afterRead State.reset.hl).writeFails State.reset.hl 0x00 = false) ∧
    (refusing [0x014D] []).readFails (refusing [0x014D] []).hl = true ∧
    (let s := refusing [] [0x014D];
      s.readFails s.hl = false ∧ (s.afterRead s.hl).writeFails s.hl 0x00 = true) := by decide

theorem witness_BitTest :
    State.reset.readFails State.reset.hl = false ∧ (refusing [0x014D] []).readFails (refusing [0x014D] []).hl = true := by
  decide

/-- Bit 7 of a byte that is zero: `RES` stores 0x00, `SET` stores 0x80. -/
theorem witness_ResetAndSetBitAtHl :
    (State.reset.readFails State.reset.hl = false ∧ (State.reset.afterRead State.reset.hl).writeFails State.reset.hl 0x80 = false) ∧
    (refusing [0x014D] []).readFails (refusing [0x014D] []).hl = true ∧
    (let s := refusing [] [0x014D];
      s.readFails s.hl = false ∧ (s.afterRead s.hl).writeFails s.hl 0x80 = true) := by decide

/-- Every condition holds somewhere and fails somewhere: at reset Z and C are set. -/
theorem witness_Conditions :
    let s : State := { State.reset with f := 0x00 }
    (CondHolds .z State.reset ∧ CondHolds .c State.reset ∧ ¬ CondHolds .nz State.reset ∧ ¬ CondHolds .nc State.reset) ∧
    (CondHolds .nz s ∧ CondHolds .nc s ∧ ¬ CondHolds .z s ∧ ¬ CondHolds .c s) := by
  unfold CondHolds
  decide

theorem witness_AbsoluteJumps : CondHolds .z State.reset ∧ ¬ CondHolds .nz State.reset :=
  ⟨witness_Conditions.1.1, witness_Conditions.1.2.2.1⟩

theorem witness_RelativeJumps : CondHolds .c State.reset ∧ ¬ CondHolds .nc State.reset :=
  ⟨witness_Conditions.1.2.1, witness_Conditions.1.2.2.2⟩

/-- The condition with each of the three ways a pop goes, and the condition failing. -/
theorem witness_Returns :
    (let s := State.reset;
      CondHolds .z s ∧ s.readFails s.sp = false ∧ (s.afterRead s.sp).readFails (s.sp + 1) = false) ∧
    (CondHolds .z (refusing [0xFFFE] []) ∧ (refusing [0xFFFE] []).readFails (refusing [0xFFFE] []).sp = true) ∧
    (let s := refusing [0xFFFF] [];
      CondHolds .z s ∧ s.readFails s.sp = false ∧ (s.afterRead s.sp).readFails (s.sp + 1) = true) ∧
    ¬ CondHolds .nz State.reset := by
  unfold CondHolds
  decide

/-- The return address pushed at SP 0x0001 by `CALL nn` at 0xFFFF: neither write refused, the first, the second. -/
theorem witness_CallsAndRestarts :
    let s : State := { State.reset with pc := 0xFFFF, sp := 0x0001 }
    let v := s.pc + 3
    (CondHolds .z s ∧ ¬ CondHolds .nz s) ∧
    (s.writeFails (s.sp - 1) (hiByte v) = false ∧
      (s.afterWrite (s.sp - 1) (hiByte v)).writeFails (s.sp - 2) (loByte v) = false) ∧
    (let u : State := { s with collab := .fixed [] [0x0000] };
      u.writeFails (u.sp - 1) (hiByte v) = true) ∧
    (let u : State := { s with collab := .fixed [] [0xFFFF] };
      u.writeFails (u.sp - 1) (hiByte v) = false ∧
        (u.afterWrite (u.sp - 1) (hiByte v)).writeFails (u.sp - 2) (loByte v) = true) := by
  unfold CondHolds
  decide

/-- `RET` after `CALL`, `CALL Z` and `RST`. -/
theorem witness_ReturnAfterCall :
    CondHolds .z State.reset ∧
    (∃ t, exec (.callNn 0x4000) State.reset = .next t ∧ t.fault = none ∧ t.readFails t.sp = false ∧
      (t.afterRead t.sp).readFails (t.sp + 1) = false) ∧
    (∃ t, exec (.callCond .z 0x4000) State.reset = .next t ∧ t.fault = none ∧ t.readFails t.sp = false ∧
      (t.afterRead t.sp).readFails (t.sp + 1) = false) ∧
    ∃ t, exec (.rst 7) State.reset = .next t ∧ t.fault = none ∧ t.readFails t.sp = false ∧
      (t.afterRead t.sp).readFails (t.sp + 1) = false :=
  ⟨by unfold CondHolds; decide, ⟨_, rfl, rfl, rfl, rfl⟩, ⟨_, rfl, rfl, rfl, rfl⟩, _, rfl, rfl, rfl, rfl⟩

/-- `DI` and `EI`: the write answered, the write refused. `RETI`: all answered, the first read refused, the second read
refused, the write refused. -/
theorem witness_InterruptEnableWrites :
    let popped := fun s : State => (s.afterRead s.sp).afterRead (s.sp + 1)
    (let s := State.reset;
      s.writeFails s.params.ieAddr s.params.diSentinel = false ∧ s.writeFails s.params.ieAddr s.params.eiSentinel = false ∧
        s.readFails s.sp = false ∧ (s.afterRead s.sp).readFails (s.sp + 1) = false ∧
        (popped s).writeFails s.params.ieAddr s.params.eiSentinel = false) ∧
    (let s := refusing [] [0xFFFF];
      s.writeFails s.params.ieAddr s.params.diSentinel = true ∧ s.writeFails s.params.ieAddr s.params.eiSentinel = true ∧
        s.readFails s.sp = false ∧ (s.afterRead s.sp).readFails (s.sp + 1) = false ∧
        (popped s).writeFails s.params.ieAddr s.params.eiSentinel = true) ∧
    (let s := refusing [0xFFFE] [];
      s.readFails s.sp = true) ∧
    (let s := refusing [0xFFFF] [];
      s.readFails s.sp = false ∧ (s.afterRead s.sp).readFails (s.sp + 1) = true) := by decide

end Sys2Proof.Tests
end

section
/-! PROOFS. 10_state.md: the register pairs (R22, R23) and the register file after reset (R33). -/

namespace Sys2Proof.Machine

/-! ### Pairs -/

/-- `hi ++ lo` as a number (00_scope.md R5). -/
theorem toNat_joinBytes (hi lo : Byte) : (joinBytes hi lo).toNat = hi.toNat * 256 + lo.toNat :=
  calc (joinBytes hi lo).toNat
    _ = hi.toNat <<< 8 ||| lo.toNat := BitVec.toNat_append hi lo
    _ = hi.toNat <<< 8 + lo.toNat := (Nat.shiftLeft_add_eq_or_of_lt lo.isLt hi.toNat).symm
    _ = hi.toNat * 256 + lo.toNat := by rw [Nat.shiftLeft_eq]

/-- R23: the round trip of every pair. -/
theorem setPair_pair_same (s : State) (p : Pair) (v : Addr) :
    (s.setPair p v).pair p = if p = .af then v &&& 0xFFF0 else v := by
  split
  case isTrue haf =>
    subst haf
    exact setPair_pair_af s v
  case isFalse hne => exact setPair_pair s p v hne

/-- R22: no two pairs share a register. -/
theorem setPair_pair_other (s : State) {p q : Pair} (v : Addr) (hne : q ≠ p) :
    (s.setPair p v).pair q = s.pair q := by
  cases p <;> cases q <;> first | exact absurd rfl hne | rfl

/-- R23: only a write of `AF` writes F. -/
theorem setPair_f_of_ne_af (s : State) {p : Pair} (v : Addr) (hne : p ≠ .af) : (s.setPair p v).f = s.f := by
  cases p with
  | af => exact absurd rfl hne
  | bc => exact setPair_f_bc s v
  | de => exact setPair_f_de s v
  | hl => exact setPair_f_hl s v

/-- Settles O3: a pair is `joinBytes` of its registers, and a pair write is read back by `setPair_pair_same` and framed by
`setPair_pair_other`, `keepsRegs_setPair` and `setPair_f_of_ne_af`. -/
theorem pairReadAndWrite : Obligations.PairReadAndWrite := by
  intro s v
  exact ⟨toNat_joinBytes s.a s.f, toNat_joinBytes s.b s.c, toNat_joinBytes s.d s.e, toNat_joinBytes s.h s.l,
    fun p => setPair_pair_same s p v,
    fun _ _ hne => setPair_pair_other s v hne,
    fun p => ⟨keepsRegs_setPair s p v, setPair_f_of_ne_af s v⟩⟩

/-! ### Reset and power-on -/

/-- The reset values over any memory, any collaborator and any parameters. -/
def resetOver (mem : Memory) (collab : Collaborator) (collabState : Nat) (params : Params) : State :=
  { State.reset with mem := mem, collab := collab, collabState := collabState, params := params }

/-- Power-on answers the reset values over the cartridge image, for an image that fits (20_memory.md R54). -/
theorem powerOn_eq_some_iff {cart : List Byte} {collab : Collaborator} {collabState : Nat} {params : Params} {s : State} :
    State.powerOn cart collab collabState params = some s ↔
      cart.length ≤ 65536 ∧ s = resetOver (Memory.load [] 0 cart) collab collabState params := by
  simp [State.powerOn, resetOver, eq_comm]

/-- Whatever resets the machine, the next state is the reset values over what the core does not own
(70_reset_and_hazards.md R341). -/
theorem eq_resetOver_of_reset_or_resetEvent_or_powerOn {s : State}
    (h : s = State.reset ∨ (∃ u memAfter stateAfter, s = State.resetEvent u memAfter stateAfter) ∨
      ∃ cart collab collabState params, State.powerOn cart collab collabState params = some s) :
    ∃ mem collab collabState params, s = resetOver mem collab collabState params := by
  obtain hreset | ⟨u, memAfter, stateAfter, hevent⟩ | ⟨cart, collab, collabState, params, hpower⟩ := h
  · exact ⟨_, _, _, _, hreset⟩
  · exact ⟨_, _, _, _, hevent⟩
  · exact ⟨_, _, _, _, (powerOn_eq_some_iff.mp hpower).2⟩

/-- R33: the register column. -/
theorem resetOver_registers (mem : Memory) (collab : Collaborator) (collabState : Nat) (params : Params) :
    let s := resetOver mem collab collabState params
    s.a = 0x01 ∧ s.f = 0xB0 ∧ s.b = 0x00 ∧ s.c = 0x13 ∧ s.d = 0x00 ∧ s.e = 0xD8 ∧ s.h = 0x01 ∧ s.l = 0x4D :=
  ⟨rfl, rfl, rfl, rfl, rfl, rfl, rfl, rfl⟩

/-- Settles O1: each of the three origins is `resetOver` something, whose registers are literals; the pair column and the
flags are computed from the register column, as R33 says. -/
theorem resetRegisterValues : Obligations.ResetRegisterValues := by
  intro s h
  obtain ⟨mem, collab, collabState, params, hs⟩ := eq_resetOver_of_reset_or_resetEvent_or_powerOn h
  obtain ⟨ha, hf, hb, hc, hd, he, hh, hl⟩ := resetOver_registers mem collab collabState params
  rw [← hs] at ha hf hb hc hd he hh hl
  refine ⟨ha, hf, hb, hc, hd, he, hh, hl, ?pairs⟩
  simp only [State.pair, State.flagZ, State.flagN, State.flagH, State.flagC, ha, hf, hb, hc, hd, he, hh, hl]
  decide

end Sys2Proof.Machine
end

section
/-! PROOFS. 41_load_8bit.md: the register and immediate loads (R130 to R133), the accumulator against `(BC)`, `(DE)` and
`(nn)` (R135 to R140), and the accumulator loads that step HL (R142, R144). -/

namespace Sys2Proof.Machine

/-! ### The shapes of an 8-bit load -/

theorem keepsRegs_trans {dest dest' : List Reg8} {s t u : State} (hst : KeepsRegs dest s t)
    (htu : KeepsRegs dest' t u) : KeepsRegs (dest ++ dest') s u := by
  intro r hr
  obtain ⟨hdest, hdest'⟩ : r ∉ dest ∧ r ∉ dest' := by simpa using hr
  exact (htu r hdest').trans (hst r hdest)

/-- The end of an instruction that writes one register. `u` is the state after its accesses: `s` where it makes none, `s`
with the collaborator's own state moved (20_memory.md R53) where it reads. -/
theorem ends_setReg {s u : State} {c : Nat} (n : Addr) (r : Reg8) (v : Byte) (hu : u = { s with collabState := c }) :
    Ends u s (fun t => t.reg r = v ∧ t.f = s.f ∧ Frame [r] [] n s t) (.next ((u.advance n).setReg r v)) := by
  have hregs : KeepsRegs [r] s ((u.advance n).setReg r v) := by
    subst hu
    exact keepsRegs_setReg _ r v
  exact ⟨_, rfl, by simp [hu], by simp [hu], by simp, by simp [hu], by simp, by simp [hu], hregs,
    keepsMem_of_mem_eq [] (by simp [hu]), by simp [hu], by simp [hu]⟩

/-- An instruction that writes `v` to one register and asks the collaborator nothing. -/
theorem completes_of_setReg {i : Instr} {s : State} {code : List Byte} {cycles : Byte} {n : Addr} {r : Reg8} {v : Byte}
    (hcode : encode i = code) (hcycles : cycleReport i s = some cycles)
    (hexec : exec i s = .next ((s.advance n).setReg r v)) :
    Completes i s code cycles fun t => t.reg r = v ∧ t.f = s.f ∧ Frame [r] [] n s t :=
  completesWith_of hcode hcycles hexec (ends_setReg n r v rfl)

/-- An instruction that reads a byte into one register. -/
theorem loads_of_setReg {i : Instr} {s : State} {x : Addr} {code : List Byte} {cycles : Byte} {n : Addr} {r : Reg8}
    (hcode : encode i = code) (hcycles : cycleReport i s = some cycles)
    (hexec : exec i s = readByte x (s.advance n) fun v u => .next (u.setReg r v)) :
    Loads i s x code cycles fun v t => t.reg r = v ∧ t.f = s.f ∧ Frame [r] [] n s t :=
  loads_of hcode hcycles hexec fun v _ => ends_setReg n r v rfl

/-- An instruction that stores a byte and does nothing else. -/
theorem stores_of_next {i : Instr} {s : State} {x : Addr} {v : Byte} {code : List Byte} {cycles : Byte} {n : Addr}
    (hcode : encode i = code) (hcycles : cycleReport i s = some cycles)
    (hexec : exec i s = writeByte x v (s.advance n) .next) :
    Stores i s x v code cycles fun t => t.f = s.f ∧ Frame [] [x] n s t := by
  refine stores_of hcode hcycles hexec ?ends
  have hregs : KeepsRegs [] s ((s.afterWrite x v).advance n) := fun r _ => by simp
  have hmem : KeepsMem [x] s ((s.afterWrite x v).advance n) := keepsMem_setByte rfl
  exact ⟨_, rfl, rfl, rfl, rfl, rfl, by simp, rfl, hregs, hmem, rfl, rfl⟩

/-- R142, R144: HL is written after the read and after A, so the address is the old HL and A keeps the byte. -/
theorem loads_of_loadAccStepHl {i : Instr} {s : State} {code : List Byte} {cycles : Byte} (adjust : Addr → Addr)
    (hcode : encode i = code) (hcycles : cycleReport i s = some cycles) (hexec : exec i s = loadAccStepHl adjust s) :
    Loads i s s.hl code cycles fun v t =>
      t.a = v ∧ t.hl = adjust s.hl ∧ t.f = s.f ∧ Frame [.a, .h, .l] [] 1 s t := by
  have hread : exec i s = readByte s.hl (s.advance 1) fun v u =>
      .next ((u.setReg .a v).setPair .hl (adjust u.hl)) := hexec
  refine loads_of hcode hcycles hread fun v _ => ?ends
  have hacc : KeepsRegs [.a] s (((s.afterRead s.hl).advance 1).setReg .a v) := keepsRegs_setReg _ .a v
  have hhl := keepsRegs_setPair (((s.afterRead s.hl).advance 1).setReg .a v) .hl (adjust s.hl)
  exact ⟨_, rfl, by simp, by simp, by simp, by simp, hhl .a (by decide), by simp, by simp, keepsRegs_trans hacc hhl,
    keepsMem_of_mem_eq [] (by simp), by simp, by simp⟩

/-! ### Registers and immediates -/

/-- Settles O22: one register write, of the source's value before it. -/
theorem ldRegReg : Obligations.LdRegReg := fun dst src s =>
  completes_of_setReg (encode_ldRegReg dst src) (cycles_ldRegReg dst src s) (exec_ldRegReg dst src s)

/-- Settles O25: one register write of the immediate. -/
theorem ldRegImm : Obligations.LdRegImm := fun dst n s =>
  completes_of_setReg (encode_ldRegImm dst n) (cycles_ldRegImm dst n s) (exec_ldRegImm dst n s)

/-! ### The byte at HL -/

/-- Settles O23: the address is taken before the register write, so it is the old HL for H and L too. -/
theorem ldRegAtHl : Obligations.LdRegAtHl := fun dst s =>
  loads_of_setReg (encode_ldRegAtHl dst) (cycles_ldRegAtHl dst s) (exec_ldRegAtHl dst s)

/-- Settles O24: one store of the register. -/
theorem ldAtHlReg : Obligations.LdAtHlReg := by
  intro src s
  have hexec : exec (.ldAtHlReg src) s = writeByte s.hl (s.reg src) (s.advance 1) .next := by
    simp [exec_ldAtHlReg, storeAtHl]
  exact stores_of_next (encode_ldAtHlReg src) (cycles_ldAtHlReg src s) hexec

/-! ### The accumulator -/

/-- Settles O27: each of the three reads a byte into A. -/
theorem loadAccumulator : Obligations.LoadAccumulator := by
  intro s nn
  refine ⟨?bc, ?de, ?nn⟩
  case bc => exact loads_of_setReg (n := 1) (r := .a) rfl rfl rfl
  case de => exact loads_of_setReg (n := 1) (r := .a) rfl rfl rfl
  case nn => exact loads_of_setReg (n := 3) (r := .a) rfl rfl rfl

/-- Settles O28: each of the three stores A. -/
theorem storeAccumulator : Obligations.StoreAccumulator := by
  intro s nn
  refine ⟨?bc, ?de, ?nn⟩
  case bc => exact stores_of_next rfl rfl rfl
  case de => exact stores_of_next rfl rfl rfl
  case nn => exact stores_of_next rfl rfl rfl

/-- Settles O29: both are `loadAccStepHl`, up and down. -/
theorem loadAccumulatorStepHl : Obligations.LoadAccumulatorStepHl := fun _ =>
  ⟨loads_of_loadAccStepHl (· + 1) rfl rfl rfl, loads_of_loadAccStepHl (· - 1) rfl rfl rfl⟩

end Sys2Proof.Machine
end

section
/-! PROOFS. 42_load_16bit_stack.md: the pops of the register pairs (R165, R166). -/

namespace Sys2Proof.Machine

/-- The end of a pop into a pair. `u` is the state after the two reads, which move nothing but the collaborator's own state
(20_memory.md R53). -/
theorem ends_setSp_setPair {s u : State} {c : Nat} (n sp : Addr) (qq : Pair) (v : Addr)
    (hu : u = { s with collabState := c }) :
    Ends u s (fun t => t.sp = sp ∧ KeepsMem [] s t ∧ t.pair qq = (if qq = .af then v &&& 0xFFF0 else v) ∧
        (qq ≠ .af → t.f = s.f) ∧ KeepsRegs (pairRegs qq) s t ∧ t.pc = s.pc + n)
      (.next (((u.advance n).setSp sp).setPair qq v)) := by
  have hregs : KeepsRegs (pairRegs qq) s (((u.advance n).setSp sp).setPair qq v) := by
    subst hu
    exact keepsRegs_setPair _ qq v
  exact ⟨_, rfl, by simp [hu], by simp [hu], by simp, by simp [hu], by simp, keepsMem_of_mem_eq [] (by simp [hu]),
    setPair_pair_same _ qq v, fun hne => by simp [setPair_f_of_ne_af _ v hne, hu], hregs, by simp [hu]⟩

/-- Settles O37: a pop is `pop16` and one pair write, which is read back with F masked for `AF`, and writes F in no other
pair. -/
theorem popLoadsPair : Obligations.PopLoadsPair := fun qq s =>
  pops_of (fun v u => u.setPair qq v) (encode_pop qq) (cycles_pop qq s) (exec_pop qq s) fun v =>
    ends_setSp_setPair 1 (s.sp + 2) qq v rfl

end Sys2Proof.Machine
end

section
/-! PROOFS. 43_alu_8bit.md: `INC` and `DEC` of a register (R180, R182), on the primitives `Increment` and `Decrement`
(40_primitives_dispatch.md R103, R104). -/

namespace Sys2Proof.Machine

/-! ### The primitives in arithmetic -/

theorem toNat_and_lowNibble (v : Byte) : (v &&& 0xF).toNat = v.toNat % 16 :=
  Nat.and_two_pow_sub_one_eq_mod v.toNat 4

/-- R103, with R100 for an addend of one: only a low nibble of 15 carries. -/
theorem increment_eq (v : Byte) :
    increment v = (BitVec.ofNat 8 (v.toNat + 1), decide (v.toNat % 16 = 15)) := by
  have hresult : v + 1 = BitVec.ofNat 8 (v.toNat + 1) := by bv_omega
  have hcarry : willHalfCarry v 1 = decide (v.toNat % 16 = 15) := by
    rw [willHalfCarry, toNat_and_lowNibble, toNat_and_lowNibble, decide_eq_decide]
    change v.toNat % 16 + 1 > 15 ↔ _
    omega
  rw [increment, hresult, hcarry]

/-- R104, with R101 for a subtrahend of one: only a low nibble of 0 borrows. -/
theorem decrement_eq (v : Byte) :
    decrement v = (BitVec.ofNat 8 (v.toNat + 255), decide (v.toNat % 16 = 0)) := by
  have hresult : v - 1 = BitVec.ofNat 8 (v.toNat + 255) := by bv_omega
  have hborrow : willHalfBorrow v 1 = decide (v.toNat % 16 = 0) := by
    rw [willHalfBorrow, toNat_and_lowNibble, toNat_and_lowNibble, decide_eq_decide]
    exact Nat.lt_one_iff
  rw [decrement, hresult, hborrow]

theorem ofNat_add_one_eq_zero_iff (v : Byte) : BitVec.ofNat 8 (v.toNat + 1) = 0 ↔ v = 0xFF := by bv_omega

theorem ofNat_add_255_eq_zero_iff (v : Byte) : BitVec.ofNat 8 (v.toNat + 255) = 0 ↔ v = 0x01 := by bv_omega

/-! ### The shape of an instruction that writes a register and the flags -/

/-- F stands in no frame. -/
theorem frame_setFlags {dest : List Reg8} {stored : List Addr} {length : Addr} {s t : State} (z n h c : Bool)
    (hframe : Frame dest stored length s t) : Frame dest stored length s (t.setFlags z n h c) := by
  obtain ⟨hregs, hmem, hsp, hpc⟩ := hframe
  exact ⟨fun r hr => (setFlags_reg t z n h c r).trans (hregs r hr), hmem, hsp, hpc⟩

/-- `ends_setReg` with the four flags written after the register. -/
theorem ends_setReg_setFlags {s u : State} {k : Nat} (length : Addr) (r : Reg8) (v : Byte) (z n h c : Bool)
    (hu : u = { s with collabState := k }) :
    Ends u s (fun t => t.reg r = v ∧ HasFlags t z n h c ∧ Frame [r] [] length s t)
      (.next (((u.advance length).setReg r v).setFlags z n h c)) := by
  obtain ⟨t, ht, hfault, hcollab, hstate, hparams, hreg, -, hframe⟩ := ends_setReg length r v hu
  cases ht
  exact ⟨_, rfl, hfault, hcollab, hstate, hparams, (setFlags_reg _ z n h c r).trans hreg,
    hasFlags_setFlags _ z n h c, frame_setFlags z n h c hframe⟩

/-- An instruction that writes one register and the flags and asks the collaborator nothing. -/
theorem completes_of_setReg_setFlags {i : Instr} {s : State} {code : List Byte} {cycles : Byte} {length : Addr} {r : Reg8}
    {v : Byte} {z n h c : Bool} (hcode : encode i = code) (hcycles : cycleReport i s = some cycles)
    (hexec : exec i s = .next (((s.advance length).setReg r v).setFlags z n h c)) :
    Completes i s code cycles fun t => t.reg r = v ∧ HasFlags t z n h c ∧ Frame [r] [] length s t :=
  completesWith_of hcode hcycles hexec (ends_setReg_setFlags length r v z n h c rfl)

/-! ### INC r and DEC r -/

/-- R180 in arithmetic. -/
theorem exec_incReg_eq (r : Reg8) (s : State) :
    exec (.incReg r) s = .next (((s.advance 1).setReg r (BitVec.ofNat 8 ((s.reg r).toNat + 1))).setFlags
      (decide (s.reg r = 0xFF)) false (decide ((s.reg r).toNat % 16 = 15)) s.flagC) := by
  simp only [exec_incReg, incReg, increment_eq, ofNat_add_one_eq_zero_iff]

/-- R182 in arithmetic. -/
theorem exec_decReg_eq (r : Reg8) (s : State) :
    exec (.decReg r) s = .next (((s.advance 1).setReg r (BitVec.ofNat 8 ((s.reg r).toNat + 255))).setFlags
      (decide (s.reg r = 0x01)) true (decide ((s.reg r).toNat % 16 = 0)) s.flagC) := by
  simp only [exec_decReg, decReg, decrement_eq, ofNat_add_255_eq_zero_iff]

/-- Settles O39: one register write and one flag write, whose values are those of the primitives in arithmetic. -/
theorem incDecReg : Obligations.IncDecReg := fun r s =>
  ⟨completes_of_setReg_setFlags (encode_incReg r) (cycles_incReg r s) (exec_incReg_eq r s),
    completes_of_setReg_setFlags (encode_decReg r) (cycles_decReg r s) (exec_decReg_eq r s)⟩

end Sys2Proof.Machine
end

section
/-! PROOFS. 46_control_transfer.md: the relative jumps (R268, R269) and the returns (R272, R273). -/

namespace Sys2Proof.Machine

/-! ### The displacement as a number -/

theorem sext16_eq_ofNat_sextNat (e : Byte) : sext16 e = BitVec.ofNat 16 (sextNat e) := by
  have hmsb : e.msb = decide (0x80 ≤ e.toNat) := BitVec.msb_eq_decide e
  apply BitVec.eq_of_toNat_eq
  rw [sext16, BitVec.toNat_signExtend, BitVec.toNat_setWidth, BitVec.toNat_ofNat, hmsb, sextNat]
  obtain hpos | hneg := Nat.lt_or_ge e.toNat 0x80
  · simp only [hpos, Nat.not_le.mpr hpos, decide_false, Bool.false_eq_true, if_true, if_false]
    omega
  · simp only [hneg, Nat.not_lt.mpr hneg, decide_true, if_true, if_false]
    omega

/-- R268: the sum of pc past the two bytes and the displacement, modulo 65536. -/
theorem jumpRelative_target (pc : Addr) (e : Byte) :
    pc + 2 + sext16 e = BitVec.ofNat 16 (pc.toNat + 2 + sextNat e) := by
  rw [sext16_eq_ofNat_sextNat, BitVec.ofNat_add, BitVec.ofNat_add, BitVec.ofNat_toNat, BitVec.setWidth_eq]
  rfl

/-! ### The shapes of a control transfer -/

/-- A conditional form whose condition fails. -/
theorem completes_of_advance {i : Instr} {s : State} {code : List Byte} {cycles : Byte} {n : Addr}
    (hcode : encode i = code) (hcycles : cycleReport i s = some cycles) (hexec : exec i s = .next (s.advance n)) :
    Completes i s code cycles fun t => t.f = s.f ∧ Frame [] [] n s t := by
  have hregs : KeepsRegs [] s (s.advance n) := fun r _ => advance_reg s n r
  have hmem : KeepsMem [] s (s.advance n) := keepsMem_of_mem_eq [] (advance_mem s n)
  exact completesWith_of hcode hcycles hexec ⟨_, rfl, rfl, rfl, rfl, rfl, rfl, hregs, hmem, rfl, rfl⟩

theorem completes_of_jumpRelative {i : Instr} {s : State} {code : List Byte} {cycles e : Byte}
    (hcode : encode i = code) (hcycles : cycleReport i s = some cycles)
    (hexec : exec i s = .next (jumpRelative e (s.advance 2))) :
    Completes i s code cycles fun t =>
      t.pc = BitVec.ofNat 16 (s.pc.toNat + 2 + sextNat e) ∧ t.sp = s.sp ∧ t.f = s.f ∧ KeepsRegs [] s t ∧
        KeepsMem [] s t := by
  have hregs : KeepsRegs [] s (jumpRelative e (s.advance 2)) := fun r _ => by simp [jumpRelative]
  have hmem : KeepsMem [] s (jumpRelative e (s.advance 2)) := keepsMem_of_mem_eq [] rfl
  exact completesWith_of hcode hcycles hexec
    ⟨_, rfl, rfl, rfl, rfl, rfl, jumpRelative_target s.pc e, rfl, rfl, hregs, hmem⟩

/-- The word popped goes to pc and the two reads move nothing but the collaborator's own state. -/
theorem pops_of_returnTo {i : Instr} {s : State} {code : List Byte} {cycles : Byte} {n : Addr}
    (hcode : encode i = code) (hcycles : cycleReport i s = some cycles)
    (hexec : exec i s = returnTo (s.advance n) .next) :
    Pops i s code cycles fun v t => t.pc = v ∧ t.f = s.f ∧ KeepsRegs [] s t := by
  refine pops_of (fun v u => u.setPc v) hcode hcycles hexec fun v => ?ends
  exact ⟨_, rfl, by simp, by simp, by simp, by simp, by simp, keepsMem_of_mem_eq [] (by simp), by simp, by simp,
    fun r _ => by simp⟩

/-! ### JR e and JR cc,e -/

/-- Settles O55: `JR e` and the taken `JR cc,e` are `jumpRelative`, the `JR cc,e` not taken moves pc past its two bytes. -/
theorem relativeJumps : Obligations.RelativeJumps := by
  intro s e
  refine ⟨?jr, fun cc => ⟨fun h => ?taken, fun h => ?notTaken⟩⟩
  case jr => exact completes_of_jumpRelative rfl rfl rfl
  case taken =>
    have hcond : s.cond cc = true := (cond_iff cc s).mpr h
    exact completes_of_jumpRelative (encode_jrCond cc e) (by rw [cycles_jrCond, if_pos hcond])
      (by rw [exec_jrCond, jumpRelativeIf, if_pos hcond])
  case notTaken =>
    have hcond : ¬ s.cond cc = true := mt (cond_iff cc s).mp h
    exact completes_of_advance (encode_jrCond cc e) (by rw [cycles_jrCond, if_neg hcond])
      (by rw [exec_jrCond, jumpRelativeIf, if_neg hcond])

/-! ### RET and RET cc -/

/-- Settles O57: `RET` and the taken `RET cc` are `returnTo`, the `RET cc` not taken moves pc past its byte. -/
theorem returns : Obligations.Returns := by
  intro s
  refine ⟨?ret, fun cc => ⟨fun h => ?taken, fun h => ?notTaken⟩⟩
  case ret => exact pops_of_returnTo (n := 1) rfl rfl rfl
  case taken =>
    have hcond : s.cond cc = true := (cond_iff cc s).mpr h
    exact pops_of_returnTo (encode_retCond cc) (by rw [cycles_retCond, if_pos hcond])
      (by rw [exec_retCond, returnIf, if_pos hcond])
  case notTaken =>
    have hcond : ¬ s.cond cc = true := mt (cond_iff cc s).mp h
    exact completes_of_advance (encode_retCond cc) (by rw [cycles_retCond, if_neg hcond])
      (by rw [exec_retCond, returnIf, if_neg hcond])

end Sys2Proof.Machine
end

section
/-! PROOFS. 47_misc_system.md: NOP (R280). -/

namespace Sys2Proof.Machine

theorem exec_nop (s : State) : exec .nop s = .next (s.advance 1) := rfl

theorem cycleReport_nop (s : State) : cycleReport .nop s = some 4 := rfl

/-- Settles O60: `NOP` is `advance 1`, and that is the one update of pc. The plain name is the model's own `noOperation`. -/
theorem Nop.noOperation : Obligations.NoOperation := by
  intro s
  have ends : Ends s s (fun t => t = { s with pc := s.pc + 1 }) (.next (s.advance 1)) :=
    ⟨_, rfl, advance_fault s 1, advance_collab s 1, advance_collabState s 1, advance_params s 1, rfl⟩
  exact completesWith_of rfl (cycleReport_nop s) (exec_nop s) ends

end Sys2Proof.Machine
end

section
/-! PROOFS. 30_encoding.md: the decoder and the encoder are inverse to each other (R80 to R93, R96), and the first byte
decides the length (R80, R93). -/

namespace Sys2Proof

/-! ### Decoding what was encoded -/

/-- R88: the two bytes of an immediate are joined to it again. -/
theorem decode_imm16 {op : Byte} {f : Addr → Instr} (hop : primaryTable op = .imm16 f) (nn : Addr) (rest : List Byte) :
    decode (op :: immediateBytes nn ++ rest) = .instr (f nn) rest := by
  have hjoin : decode (op :: immediateBytes nn ++ rest) =
      .instr (f (immediateWord (nn.extractLsb' 0 8) (nn.extractLsb' 8 8))) rest := by
    simp only [immediateBytes, List.cons_append, List.nil_append, decode, hop]
  rw [hjoin, immediateWord_bytes]

/-- Settles O4: the bytes of a row decode to it by the tables; only an `nn` immediate is taken apart and joined. -/
theorem decodeOfEncode : Obligations.DecodeOfEncode := by
  intro i rest hwf
  cases i with
  | prefixCb => exact absurd hwf (by decide)
  | ldBcNn nn | ldDeNn nn | ldHlNn nn | ldSpNn nn | ldAtNnSp nn | ldAtNnA nn | ldAAtNn nn | jpNn nn | jpNzNn nn | jpZNn nn
  | jpNcNn nn | jpCNn nn | callNn nn | callNzNn nn | callZNn nn | callNcNn nn | callCNn nn =>
    exact decode_imm16 rfl nn rest
  | _ => rfl

/-! ### Encoding what was decoded -/

/-- Settles O5: along the shapes of the first byte, what a shape reads encodes to the bytes it took. -/
theorem encodeOfDecode : Obligations.EncodeOfDecode := by
  intro bytes i rest h
  cases bytes with
  | nil => cases h
  | cons op tail =>
    cases hop : primaryTable op with
    | plain j =>
      simp only [decode, hop] at h
      cases h
      rw [(primaryTable_plain op i hop).1, List.singleton_append]
    | imm8 f =>
      cases tail with
      | nil =>
        simp only [decode, hop] at h
        cases h
      | cons n tail =>
        simp only [decode, hop] at h
        cases h
        rw [(primaryTable_imm8 op f hop n).1]
        rfl
    | imm16 f =>
      match tail with
      | [] | [_] =>
        simp only [decode, hop] at h
        cases h
      | lo :: hi :: tail =>
        simp only [decode, hop] at h
        cases h
        rw [(primaryTable_imm16 op f hop _).1, immediateBytes_word]
        rfl
    | extended =>
      obtain rfl := primaryTable_extended op hop
      cases tail with
      | nil =>
        cases h
        rfl
      | cons op2 tail =>
        simp only [decode, hop] at h
        cases h
        rw [(extendedTable_bytes op2).1]
        rfl

/-! ### The length -/

/-- R80: fewer bytes than the first one asks for are no instruction; 0xCB alone is the model's exception (log 8). -/
theorem decode_truncated {op : Byte} {rest : List Byte} (hshort : rest.length + 1 < opcodeLength op) (hop : op ≠ 0xCB) :
    ∃ why, decode (op :: rest) = .reject why := by
  unfold opcodeLength at hshort
  cases hs : primaryTable op with
  | plain i => simp [hs] at hshort
  | imm8 f =>
    have hrest : rest = [] := List.eq_nil_of_length_eq_zero (by simpa [hs] using hshort)
    subst hrest
    exact ⟨.truncated 2, by simp only [decode, hs]⟩
  | imm16 f =>
    match rest with
    | [] | [_] => exact ⟨.truncated 3, by simp only [decode, hs]⟩
    | _ :: _ :: _ =>
      simp only [hs, List.length_cons] at hshort
      omega
  | extended => exact absurd (primaryTable_extended op hs) hop

/-- R80: as many bytes as the first one asks for are an instruction, whatever follows. -/
theorem decode_complete {op : Byte} {rest : List Byte} (hlong : opcodeLength op ≤ rest.length + 1) :
    ∃ i, WellFormed i = true ∧ (encode i).length = opcodeLength op ∧
      decode (op :: rest) = .instr i (rest.drop (opcodeLength op - 1)) := by
  have hpos := (opcodeLength_bounds op).1
  have hlength : (rest.take (opcodeLength op - 1)).length + 1 = opcodeLength op := by
    rw [List.length_take]
    omega
  obtain ⟨i, hwf, hencode, hdecode⟩ := decode_exact op _ hlength
  have happend := decode_append op _ (rest.drop (opcodeLength op - 1)) hlength i hdecode
  rw [List.take_append_drop] at happend
  exact ⟨i, hwf, by rw [hencode, List.length_cons, hlength], happend⟩

/-- Settles O6: `decode_complete` with enough bytes, `decode_truncated` with fewer. -/
theorem firstByteDecidesLength : Obligations.FirstByteDecidesLength := by
  refine ⟨rfl, rfl, rfl, fun op rest => ?_⟩
  obtain ⟨hpos, hmax⟩ := opcodeLength_bounds op
  exact ⟨hpos, hmax, decode_complete, decode_truncated⟩

/-- Settles O7: the decoder evaluated on seventeen words. -/
theorem decodeSanity : Obligations.DecodeSanity := by
  unfold Obligations.DecodeSanity
  decide

end Sys2Proof
end

section
/-! PROOFS. 10_state.md R21, R29, R30, 60_exceptions.md R302, R303, R308, 20_memory.md R53: what every step keeps, along the
named operations (`Reaches`). -/

namespace Sys2Proof.Machine

/-! ### The invariant -/

/-- Every named operation keeps the invariant: the ones that write F mask it (R21), the ones that write memory store. -/
theorem inv_of_reaches {s t : State} (h : Reaches s t) (hinv : Inv s) : Inv t := by
  induction h with
  | refl => exact hinv
  | setPc _ _ ih | setSp _ _ ih | afterRead _ _ _ ih | failedRead _ _ _ ih | highPage _ ih | unimplemented _ _ _ ih =>
    exact ih
  | setReg _ r v ih => exact ⟨by simpa using ih.1, by simpa using ih.2⟩
  | setPair _ p v ih =>
    refine ⟨by simpa using ih.1, ?_⟩
    cases p with
    | af => exact maskF_low (loByte v)
    | bc | de | hl => exact ih.2
  | setFlags _ z n h c ih => exact ⟨ih.1, packFlags_low z n h c⟩
  | afterWrite _ x v _ ih => exact ⟨wf_afterWrite _ x v ih.1, ih.2⟩
  | failedWrite _ x v w _ ih => exact ⟨wf_setByte _ x w (wf_afterWrite _ x v ih.1), ih.2⟩

/-- Settles O13: a step is a chain of named operations, and each keeps the invariant. -/
theorem stepKeepsInvariant : Obligations.StepKeepsInvariant := fun _ _ hinv hstep =>
  inv_of_reaches (step_reaches hstep) hinv

theorem inv_resetOver {mem : Memory} (collab : Collaborator) (collabState : Nat) (params : Params)
    (hmem : mem.wf = true) : Inv (resetOver mem collab collabState params) :=
  have hlow : (0xB0 : Byte) &&& 0x0F = 0 := by decide
  ⟨hmem, hlow⟩

/-- Settles O14: F is 0xB0 after reset, and power-on leaves a canonical memory. -/
theorem resetHasInvariant : Obligations.ResetHasInvariant := by
  refine ⟨inv_resetOver _ _ _ wf_reset, fun cart collab collabState params s h => ?powerOn,
    fun u memAfter stateAfter hwf => inv_resetOver _ _ _ hwf⟩
  case powerOn =>
    have hwf := wf_powerOn cart collab collabState params s h
    obtain ⟨-, rfl⟩ := powerOn_eq_some_iff.mp h
    exact inv_resetOver collab collabState params hwf

/-! ### Power-on -/

/-- 20_memory.md R54: the image stands at ascending addresses and every other cell is as before. -/
theorem lookup_load (vs : List Byte) (m : Memory) (addr x : Nat) :
    (m.load addr vs).lookup x = if addr ≤ x ∧ x < addr + vs.length then vs.getD (x - addr) 0x00 else m.lookup x := by
  induction vs generalizing m addr with
  | nil =>
    rw [if_neg (by simp)]
    rfl
  | cons v vs ih =>
    rw [Memory.load, ih, List.length_cons]
    obtain hlt | rfl | hgt := Nat.lt_trichotomy x addr
    · rw [if_neg (by omega), if_neg (by omega), lookup_store_other _ _ _ _ (by omega)]
    · rw [if_neg (by omega), if_pos (by omega), lookup_store_same, Nat.sub_self]
      rfl
    · have hindex : x - addr = x - (addr + 1) + 1 := by omega
      rw [hindex, List.getD_cons_succ, lookup_store_other _ _ _ _ (by omega)]
      congr 1
      exact propext (by omega)

/-- After power-on a cell of the image holds its byte and every other cell 0x00. -/
theorem lookup_load_empty (cart : List Byte) (x : Nat) : Memory.lookup (Memory.load [] 0 cart) x = cart.getD x 0x00 := by
  rw [lookup_load, Nat.sub_zero, Nat.zero_add]
  split
  case isTrue => rfl
  case isFalse hout => exact (List.getD_eq_default _ _ (by omega)).symm

/-- Settles O2: every origin is `resetOver` something, and power-on loads the image into an empty memory. -/
theorem resetControlStateAndMemory : Obligations.ResetControlStateAndMemory := by
  refine ⟨fun u memAfter stateAfter => ⟨rfl, rfl, rfl, rfl⟩, fun s h => ?control,
    fun cart collab collabState params => ⟨fun hfits => ?fits, fun hlong => ?long⟩⟩
  case control =>
    obtain ⟨mem, collab, collabState, params, rfl⟩ := eq_resetOver_of_reset_or_resetEvent_or_powerOn h
    exact ⟨rfl, rfl, rfl⟩
  case fits =>
    exact ⟨_, powerOn_eq_some_iff.mpr ⟨hfits, rfl⟩, rfl, rfl, rfl, fun addr => lookup_load_empty cart addr.toNat⟩
  case long => exact if_neg (by omega)

/-! ### The latch -/

/-- R29: from a latched state the machine answers `Fault.latched`. -/
theorem step_latched {s : State} {r : Fatal} (h : s.fault = some r) : step s = .fault (.latched r) := by
  unfold step
  rw [h]

/-- No named operation clears the latch. -/
theorem fault_isSome_of_reaches {s t : State} (h : Reaches s t) (hlatched : s.fault.isSome = true) :
    t.fault.isSome = true := by
  induction h with
  | refl => exact hlatched
  | setPc _ _ ih | setSp _ _ ih | setFlags _ _ _ _ _ ih | afterRead _ _ _ ih | afterWrite _ _ _ _ ih => exact ih
  | setReg _ r v ih => simpa using ih
  | setPair _ p v ih => simpa using ih
  | failedRead | failedWrite | highPage | unimplemented => rfl

/-- Settles O12: `step_latched` at the first step of the run, `fault_isSome_of_reaches` for the instructions. -/
theorem latchIsLeftOnlyByReset : Obligations.LatchIsLeftOnlyByReset := by
  refine ⟨fun n s r h => ?run, fun i s t h hexec => fault_isSome_of_reaches (Reaches.of_next hexec) h,
    fun _ _ _ => rfl⟩
  case run =>
    have hstep : core.step s = .fault (Fault.latched r) := step_latched h
    simp only [Host.Core.run, hstep]

/-! ### The arguments of the model -/

theorem collab_and_params_of_reaches {s t : State} (h : Reaches s t) : t.collab = s.collab ∧ t.params = s.params := by
  induction h with
  | refl => exact ⟨rfl, rfl⟩
  | setReg _ r v ih => simpa using ih
  | setPair _ p v ih => simpa using ih
  | setPc _ _ ih | setSp _ _ ih | setFlags _ _ _ _ _ ih | afterRead _ _ _ ih | afterWrite _ _ _ _ ih | failedRead _ _ _ ih
  | failedWrite _ _ _ _ _ ih | highPage _ ih | unimplemented _ _ _ ih => exact ih

/-- R53: only a state-dependent collaborator has a state of its own that an access moves. -/
theorem collabState_of_reaches {s t : State} (h : Reaches s t) (hc : ∀ tag, s.collab ≠ .stateDependent tag) :
    t.collabState = s.collabState := by
  induction h with
  | refl => rfl
  | setReg _ r v ih => simpa using ih
  | setPair _ p v ih => simpa using ih
  | setPc _ _ ih | setSp _ _ ih | setFlags _ _ _ _ _ ih | highPage _ ih | unimplemented _ _ _ ih => exact ih
  | afterRead hu x _ ih | failedRead hu x _ ih =>
    exact (afterRead_collabState x ((collab_and_params_of_reaches hu).1 ▸ hc)).trans ih
  | afterWrite hu x v _ ih | failedWrite hu x v _ _ ih =>
    exact (afterWrite_collabState x v ((collab_and_params_of_reaches hu).1 ▸ hc)).trans ih

/-- Settles O15: along the named operations of the step. -/
theorem stepNeverChangesArguments : Obligations.StepNeverChangesArguments := fun _ _ hstep =>
  have hreaches := step_reaches hstep
  have ⟨hcollab, hparams⟩ := collab_and_params_of_reaches hreaches
  ⟨hcollab, hparams, collabState_of_reaches hreaches⟩

/-! ### The memory errors -/

/-- R302: a read error names an address whose read the collaborator refused. -/
theorem readFails_of_memoryReadError {s t : State} {x : Addr} (h : Reaches s t) (hs : s.fault = none)
    (ht : t.fault = some (.memoryReadError x)) : ∃ u : State, u.collab = s.collab ∧ u.readFails x = true := by
  induction h with
  | refl => rw [hs] at ht; cases ht
  | setReg _ r v ih => exact ih (by simpa using ht)
  | setPair _ p v ih => exact ih (by simpa using ht)
  | setPc _ _ ih | setSp _ _ ih | setFlags _ _ _ _ _ ih | afterRead _ _ _ ih | afterWrite _ _ _ _ ih => exact ih ht
  | failedRead hu y bad =>
    cases ht
    exact ⟨_, (collab_and_params_of_reaches hu).1, bad⟩
  | failedWrite | highPage | unimplemented => cases ht

/-- R303: a write error names an access that the collaborator refused. -/
theorem writeFails_of_memoryWriteError {s t : State} {x : Addr} {v : Byte} (h : Reaches s t) (hs : s.fault = none)
    (ht : t.fault = some (.memoryWriteError x v)) : ∃ u : State, u.collab = s.collab ∧ u.writeFails x v = true := by
  induction h with
  | refl => rw [hs] at ht; cases ht
  | setReg _ r v ih => exact ih (by simpa using ht)
  | setPair _ p v ih => exact ih (by simpa using ht)
  | setPc _ _ ih | setSp _ _ ih | setFlags _ _ _ _ _ ih | afterRead _ _ _ ih | afterWrite _ _ _ _ ih => exact ih ht
  | failedWrite hu y w _ bad =>
    cases ht
    exact ⟨_, (collab_and_params_of_reaches hu).1, bad⟩
  | failedRead | highPage | unimplemented => cases ht

theorem readFails_permissive {s : State} (h : s.collab = .permissive) (x : Addr) : s.readFails x = false := by
  simp only [State.readFails, h]

theorem writeFails_permissive {s : State} (h : s.collab = .permissive) (x : Addr) (v : Byte) :
    s.writeFails x v = false := by
  simp only [State.writeFails, h]

theorem readFails_restricted {s : State} (h : s.collab = .restricted) (x : Addr) : s.readFails x = false := by
  simp only [State.readFails, h]

theorem writeFails_restricted {s : State} (h : s.collab = .restricted) (x : Addr) (v : Byte) :
    s.writeFails x v = true ↔ x.toNat < 0x8000 := by
  simp only [State.writeFails, h, decide_eq_true_eq]

theorem readFails_fixed {s : State} {reads writes : List Addr} (h : s.collab = .fixed reads writes) (x : Addr) :
    s.readFails x = true ↔ x ∈ reads := by
  simp only [State.readFails, h, List.contains_iff_mem]

theorem writeFails_fixed {s : State} {reads writes : List Addr} (h : s.collab = .fixed reads writes) (x : Addr)
    (v : Byte) : s.writeFails x v = true ↔ x ∈ writes := by
  simp only [State.writeFails, h, List.contains_iff_mem]

/-- Settles O16: a memory error of a step names an access that the collaborator of the state before it refuses. -/
theorem namedCollaboratorErrors : Obligations.NamedCollaboratorErrors := by
  intro s
  refine ⟨fun hc addr v => ⟨readFails_permissive hc addr, writeFails_permissive hc addr v⟩,
    fun hc addr v => ⟨readFails_restricted hc addr, writeFails_restricted hc addr v⟩,
    fun reads writes hc addr v => ⟨readFails_fixed hc addr, writeFails_fixed hc addr v⟩, fun t hs hstep => ?_⟩
  have hreaches := step_reaches hstep
  refine ⟨fun hc addr v => ⟨fun ht => ?permissiveRead, fun ht => ?permissiveWrite⟩,
    fun hc addr v => ⟨fun ht => ?restrictedRead, fun ht => ?restrictedWrite⟩⟩
  case permissiveRead =>
    obtain ⟨u, hu, bad⟩ := readFails_of_memoryReadError hreaches hs ht
    exact absurd bad (by simp [readFails_permissive (hu.trans hc)])
  case permissiveWrite =>
    obtain ⟨u, hu, bad⟩ := writeFails_of_memoryWriteError hreaches hs ht
    exact absurd bad (by simp [writeFails_permissive (hu.trans hc)])
  case restrictedRead =>
    obtain ⟨u, hu, bad⟩ := readFails_of_memoryReadError hreaches hs ht
    exact absurd bad (by simp [readFails_restricted (hu.trans hc)])
  case restrictedWrite =>
    obtain ⟨u, hu, bad⟩ := writeFails_of_memoryWriteError hreaches hs ht
    exact (writeFails_restricted (hu.trans hc) addr v).mp bad

end Sys2Proof.Machine
end

section
/-! PROOFS. 40_primitives_dispatch.md R110, R111, R114, R118: what a step performs and what it reports; 47_misc_system.md
R283 to R285: the opcodes that raise. -/

namespace Sys2Proof.Machine

/-! ### The instruction at pc -/

/-- What stands at `addr` begins with every beginning of it. -/
theorem bytesAt_of_append {s : State} {addr : Addr} {code more : List Byte} (h : BytesAt s addr (code ++ more)) :
    BytesAt s addr code := by
  obtain ⟨hbytes, hreads⟩ := h
  rw [List.length_append] at hbytes hreads
  rw [bytesFrom_add] at hbytes
  exact ⟨(List.append_inj hbytes (bytesFrom_length s addr code.length)).1, fun k hk => hreads k (by omega)⟩

/-- R80: the length at `pc` is that of the instruction whose bytes stand there. -/
theorem lengthAtPc_of_bytesAt {s : State} {i : Instr} (hwf : WellFormed i = true) (h : BytesAt s s.pc (encode i)) :
    s.lengthAtPc = (encode i).length := by
  obtain ⟨op, rest, hencode, hlength⟩ := encode_head i hwf
  obtain ⟨hbytes, -⟩ := h
  rw [hencode] at hbytes ⊢
  have hop : s.byteAt s.pc = op := (List.cons.inj hbytes).1
  rw [State.lengthAtPc, hop, ← hlength, List.length_cons]

/-- Settles O9: the fetch reads as many bytes as the instruction has, and these decode to it by `decodeOfEncode`. -/
theorem stepPerformsInstructionAtPc : Obligations.StepPerformsInstructionAtPc := by
  intro s i hfault hwf hat
  have hlength := lengthAtPc_of_bytesAt hwf hat
  obtain ⟨hbytes, hreads⟩ := hat
  have hdecode : decode (s.bytesFrom s.pc s.lengthAtPc) = .instr i [] := by
    rw [hlength, hbytes]
    simpa using decodeOfEncode i [] hwf
  rw [← hlength] at hreads ⊢
  exact step_ok hfault hreads hdecode

/-- Settles O8: what decodes to `i` begins with the bytes of `i` by `encodeOfDecode`, and these stand at `pc`. -/
theorem stepRunsDecoded : Obligations.StepRunsDecoded := by
  intro s code i rest hfault hwf hat hdecode
  rw [← encodeOfDecode code i rest hdecode] at hat
  exact ⟨stepPerformsInstructionAtPc s i hfault hwf (bytesAt_of_append hat), afterReads_eq s s.pc _⟩

/-- Settles O11: `step_fetch_fails` where a read is refused, `step_ok` where none is. -/
theorem fetchFailureIsReported : Obligations.FetchFailureIsReported := by
  intro s hfault
  refine ⟨fun k hk hreads bad => step_fetch_fails hfault hk hreads bad, fun hreads => ?answered⟩
  case answered =>
    obtain ⟨i, hwf, hencode, hdecode⟩ := instr_at_pc s
    exact ⟨i, hwf, hencode, step_ok hfault hreads hdecode⟩

/-! ### The rows that never complete -/

/-- R97: a row without a cycle count has the one meaning of raising `UnimplementedOpcode`. -/
theorem exec_of_cycleCost_fatal {i : Instr} (h : cycleCost i = .fatal) (s : State) :
    ∃ op, exec i s = unimplemented op s := by
  cases i with
  | halt | stop | illegalD3 | illegalDB | illegalDD | illegalE3 | illegalE4 | illegalEB | illegalEC | illegalED
  | illegalF4 | illegalFC | illegalFD => exact ⟨_, rfl⟩
  | _ => cases h

theorem cycleCost_ne_ofExtended {i : Instr} (hwf : WellFormed i = true) : cycleCost i ≠ .ofExtended := by
  intro h
  cases i with
  | prefixCb => exact absurd hwf (by decide)
  | _ => cases h

/-- R97: an instruction reports a cycle count, or its execution raises. -/
theorem cycleReport_isSome_or_raises {i : Instr} (hwf : WellFormed i = true) (s : State) :
    (∃ cycles, cycleReport i s = some cycles) ∨ ∀ u, ∃ r, Raises i u r := by
  cases hcost : cycleCost i with
  | fixed n => exact .inl ⟨n, by simp only [cycleReport, hcost]⟩
  | branch cc taken notTaken => exact .inl ⟨_, by simp only [cycleReport, hcost]; rfl⟩
  | ofExtended => exact absurd hcost (cycleCost_ne_ofExtended hwf)
  | fatal =>
    refine .inr fun u => ?_
    obtain ⟨op, hexec⟩ := exec_of_cycleCost_fatal hcost u
    exact ⟨_, _, hexec, rfl⟩

/-! ### What a step reports -/

theorem stepCycles_of_completes {s t : State} {i : Instr} {rest : List Byte} (hstep : step s = .next t)
    (ht : t.fault = none) (hdecode : decode (s.bytesFrom s.pc 3) = .instr i rest) : stepCycles s = cycleReport i s := by
  simp only [stepCycles, hstep, hdecode, ht, Option.isNone_none, if_true]

theorem stepCycles_of_raises {s t : State} {r : Fatal} (hstep : step s = .next t) (ht : t.fault = some r) :
    stepCycles s = none := by
  unfold stepCycles
  rw [hstep]
  cases decode (s.bytesFrom s.pc 3) with
  | instr i rest => simp only [ht, Option.isNone_some, Bool.false_eq_true, if_false]
  | reject why => rfl

/-- R80: the three cells at `pc` decode to the instruction there. -/
theorem decode_three_at_pc {s : State} {i : Instr} (hwf : WellFormed i = true)
    (hencode : encode i = s.bytesFrom s.pc s.lengthAtPc) : ∃ rest, decode (s.bytesFrom s.pc 3) = .instr i rest := by
  obtain ⟨-, hmax⟩ := opcodeLength_bounds (s.byteAt s.pc)
  have hsplit : 3 = s.lengthAtPc + (3 - s.lengthAtPc) := (Nat.add_sub_of_le hmax).symm
  rw [hsplit, bytesFrom_add, ← hencode]
  exact ⟨_, decodeOfEncode i _ hwf⟩

/-- Settles O10: along `step_cases`; an execution that does not raise has a cycle count. -/
theorem stepCompletesOrRaises : Obligations.StepCompletesOrRaises := by
  intro s hfault
  obtain ⟨hreads, i, hwf, hencode, -, hstep⟩ | ⟨j, -, t, hstep, ht⟩ := step_cases hfault
  case inr => exact ⟨t, hstep, .inr ⟨_, ht, stepCycles_of_raises hstep ht⟩⟩
  case inl =>
    obtain ⟨t, hnext⟩ := step_next hfault
    refine ⟨t, hnext, ?_⟩
    cases ht : t.fault with
    | some r => exact .inr ⟨r, rfl, stepCycles_of_raises hnext ht⟩
    | none =>
      have hlength : (encode i).length = s.lengthAtPc := by rw [hencode, bytesFrom_length]
      have hexec : exec i (s.afterReads s.pc (encode i).length) = .next t := by rw [hlength, ← hstep, hnext]
      have hat : BytesAt s s.pc (encode i) := ⟨by rw [hlength, hencode], by rw [hlength]; exact hreads⟩
      obtain ⟨rest, hdecode⟩ := decode_three_at_pc hwf hencode
      obtain ⟨cycles, hcycles⟩ | hraises := cycleReport_isSome_or_raises hwf s
      · exact .inl ⟨rfl, i, cycles, hwf, hat, hexec, stepCycles_of_completes hnext ht hdecode, hcycles⟩
      · obtain ⟨r, u, hu, hr⟩ := hraises (s.afterReads s.pc (encode i).length)
        rw [hexec] at hu
        cases hu
        rw [ht] at hr
        cases hr

/-! ### HALT, STOP and the eleven bytes with no instruction -/

/-- A one-byte row whose meaning is to raise `UnimplementedOpcode` raises it precisely (60_exceptions.md R301), and the step
there makes one read. -/
theorem unimplemented_row {op : Byte} {i : Instr} (hwf : WellFormed i = true) (hencode : encode i = [op])
    (hcost : cycleCost i = .fatal) (hexec : ∀ s, exec i s = unimplemented op s) (s : State) (rest : List Byte) :
    encode i = [op] ∧ decode (op :: rest) = .instr i rest ∧ cycleReport i s = none ∧
      exec i s = .next { s with fault := some (.unimplementedOpcode op s.pc) } ∧
      (s.fault = none → s.readFails s.pc = false → s.byteAt s.pc = op →
        step s = .next { s.afterRead s.pc with fault := some (.unimplementedOpcode op s.pc) }) := by
  refine ⟨hencode, ?decode, by simp only [cycleReport, hcost], hexec s, fun hfault hread hop => ?step⟩
  case decode =>
    have h := decodeOfEncode i rest hwf
    rwa [hencode] at h
  case step =>
    have hat : BytesAt s s.pc (encode i) := by
      rw [hencode]
      exact ⟨by rw [← hop]; rfl, (readsAnswered_succ s s.pc 0).mpr ⟨hread, fun k hk => absurd hk (by omega)⟩⟩
    have hstep := stepPerformsInstructionAtPc s i hfault hwf hat
    rw [hencode] at hstep
    exact hstep.trans (hexec _)

theorem illegals_encode_cost : ∀ p ∈ Instr.illegals,
    WellFormed p.2 = true ∧ encode p.2 = [p.1] ∧ cycleCost p.2 = .fatal := by decide

/-- Settles O19: each of the eleven is an `unimplemented_row`. -/
theorem illegalOpcodesRaise : Obligations.IllegalOpcodesRaise := by
  intro p hp
  obtain ⟨hwf, hencode, hcost⟩ := illegals_encode_cost p hp
  exact unimplemented_row hwf hencode hcost (exec_illegal p hp)

/-- Settles O20: each of the two is an `unimplemented_row`. -/
theorem haltAndStopRaise : Obligations.HaltAndStopRaise := by
  intro p hp
  obtain rfl | rfl : p = (0x76, .halt) ∨ p = (0x10, .stop) := by simpa using hp
  · exact unimplemented_row rfl rfl rfl fun _ => rfl
  · exact unimplemented_row rfl rfl rfl fun _ => rfl

end Sys2Proof.Machine
end

section
/-! PROOFS. What the terms of Safety.lean say of an execution that raises nothing: its accesses were answered, so it has
completed. -/

namespace Sys2Proof.Machine

/-- An execution of `i` from `s` that raises nothing makes `post` true of the next state, and `i` has the bytes `code`. -/
def CompletedAs (i : Instr) (s : State) (code : List Byte) (post : State → Prop) : Prop :=
  ∀ t, exec i s = .next t → t.fault = none → encode i = code ∧ post t

theorem not_raises_of_completed {i : Instr} {s t : State} (hexec : exec i s = .next t) (ht : t.fault = none) (r : Fatal) :
    ¬ Raises i s r := by
  rintro ⟨u, hu, hr⟩
  rw [hexec] at hu
  cases hu
  rw [ht] at hr
  cases hr

theorem completedAs_of_completesWith {after s : State} {i : Instr} {code : List Byte} {cycles : Byte} {post : State → Prop}
    (h : CompletesWith after i s code cycles post) : CompletedAs i s code post := by
  intro t hexec _
  obtain ⟨hcode, -, u, hu, -, -, -, -, hpost⟩ := h
  rw [hexec] at hu
  cases hu
  exact ⟨hcode, hpost⟩

/-- An instruction that raises where its access is refused. -/
theorem completedAs_of_access {i : Instr} {s : State} {code : List Byte} {post : State → Prop} {r : Fatal} {refused : Bool}
    (h : refused = false → CompletedAs i s code post) (hraises : refused = true → Raises i s r) :
    CompletedAs i s code post := by
  intro t hexec ht
  cases refused with
  | false => exact h rfl t hexec ht
  | true => exact absurd (hraises rfl) (not_raises_of_completed hexec ht r)

theorem completedAs_of_loads {i : Instr} {s : State} {x : Addr} {code : List Byte} {cycles : Byte}
    {post : Byte → State → Prop} (h : Loads i s x code cycles post) : CompletedAs i s code (post (s.byteAt x)) :=
  completedAs_of_access (fun hr => completedAs_of_completesWith (h.1 hr)) h.2

theorem completedAs_of_stores {i : Instr} {s : State} {x : Addr} {v : Byte} {code : List Byte} {cycles : Byte}
    {post : State → Prop} (h : Stores i s x v code cycles post) : CompletedAs i s code fun t => t.byteAt x = v ∧ post t :=
  completedAs_of_access (fun hw => completedAs_of_completesWith (h.1 hw)) h.2

/-- An instruction that raises where the first or the second of its accesses is refused: the form of `Updates`, `Pushes`,
`Pops` and `LD (nn),SP`. -/
theorem completedAs_of_accesses {after s : State} {i : Instr} {code : List Byte} {cycles : Byte} {post : State → Prop}
    {r r' : Fatal} {refused refused' : Bool}
    (h : (refused = false → refused' = false → CompletesWith after i s code cycles post) ∧
      (refused = true → Raises i s r) ∧ (refused = false → refused' = true → Raises i s r')) :
    CompletedAs i s code post := by
  obtain ⟨hcompletes, hfirst, hsecond⟩ := h
  exact completedAs_of_access
    (fun hf => completedAs_of_access (fun hs => completedAs_of_completesWith (hcompletes hf hs)) (hsecond hf)) hfirst

end Sys2Proof.Machine
end

section
/-! PROOFS. 41_load_8bit.md: `LD (HL),n` (R134), the accumulator stores that step HL (R141, R143) and the high page (R145 to
R149). -/

namespace Sys2Proof.Machine

/-! ### The byte at HL -/

/-- Settles O26: one store of the immediate. -/
theorem ldAtHlImm : Obligations.LdAtHlImm := fun _ _ => stores_of_next rfl rfl rfl

/-- R141, R143: HL is written after the store, so the address is the old HL. -/
theorem stores_of_storeAccStepHl {i : Instr} {s : State} {code : List Byte} {cycles : Byte} (adjust : Addr → Addr)
    (hcode : encode i = code) (hcycles : cycleReport i s = some cycles) (hexec : exec i s = storeAccStepHl adjust s) :
    Stores i s s.hl s.a code cycles fun t => t.hl = adjust s.hl ∧ t.f = s.f ∧ Frame [.h, .l] [s.hl] 1 s t := by
  have hwrite : exec i s = writeByte s.hl s.a (s.advance 1) fun u => .next (u.setPair .hl (adjust u.hl)) := hexec
  refine stores_of hcode hcycles hwrite ?ends
  have hregs : KeepsRegs [.h, .l] s (((s.afterWrite s.hl s.a).advance 1).setPair .hl (adjust s.hl)) :=
    keepsRegs_setPair _ .hl (adjust s.hl)
  have hmem : KeepsMem [s.hl] s (((s.afterWrite s.hl s.a).advance 1).setPair .hl (adjust s.hl)) := keepsMem_setByte rfl
  exact ⟨_, rfl, by simp, by simp, by simp, by simp, by simp, by simp, by simp, hregs, hmem, by simp, by simp⟩

/-- Settles O30: both are `storeAccStepHl`, up and down. -/
theorem storeAccumulatorStepHl : Obligations.StoreAccumulatorStepHl := fun _ =>
  ⟨stores_of_storeAccStepHl (· + 1) rfl rfl rfl, stores_of_storeAccStepHl (· - 1) rfl rfl rfl⟩

/-! ### The high page -/

theorem highPage_eq_top_iff (off : Byte) : highPage off = 0xFFFF ↔ off = 0xFF := by
  unfold highPage
  bv_omega

/-- R149: which offsets `HighAddr` lets through. -/
theorem highPageAllowed_iff (s : State) (off : Byte) :
    s.highPageAllowed off = true ↔ off ≠ 0xFF ∨ s.params.ldhAllowFFFF = true := by
  simp only [State.highPageAllowed, Bool.or_eq_true, decide_eq_true_eq, ne_eq, highPage_eq_top_iff]
  exact or_comm

theorem highPageAllowed_eq_false {s : State} {off : Byte} (hoff : off = 0xFF) (hparam : s.params.ldhAllowFFFF = false) :
    s.highPageAllowed off = false := by
  rw [Bool.eq_false_iff, ne_eq, highPageAllowed_iff]
  simp [hoff, hparam]

/-- R145 to R148: a high-page load goes to 0xFF00 plus the offset, or raises where `HighAddr` does not let it through
(R304). -/
theorem highPageLoad_of_loadAccHigh {i : Instr} {s : State} {off : Byte} {code : List Byte} {cycles : Byte} {n : Addr}
    (hcode : encode i = code) (hcycles : cycleReport i s = some cycles) (hexec : exec i s = loadAccHigh off (s.advance n)) :
    (off ≠ 0xFF ∨ s.params.ldhAllowFFFF = true →
      Loads i s (0xFF00 + off.zeroExtend 16) code cycles fun v t => t.a = v ∧ t.f = s.f ∧ Frame [.a] [] n s t) ∧
    (off = 0xFF → s.params.ldhAllowFFFF = false → Raises i s (.highPageRange 0xFFFF)) := by
  refine ⟨fun hallow => ?allowed, fun hoff hparam => ?refused⟩
  case allowed =>
    have hallowed : (s.advance n).highPageAllowed off = true := (highPageAllowed_iff s off).mpr hallow
    exact loads_of_setReg (r := .a) hcode hcycles (hexec.trans (highAddr_ok hallowed))
  case refused => exact ⟨_, hexec.trans (highAddr_fails (highPageAllowed_eq_false hoff hparam)), rfl⟩

/-- `highPageLoad_of_loadAccHigh` for the stores. -/
theorem highPageStore_of_storeAccHigh {i : Instr} {s : State} {off : Byte} {code : List Byte} {cycles : Byte} {n : Addr}
    (hcode : encode i = code) (hcycles : cycleReport i s = some cycles)
    (hexec : exec i s = storeAccHigh off (s.advance n)) :
    (off ≠ 0xFF ∨ s.params.ldhAllowFFFF = true →
      Stores i s (0xFF00 + off.zeroExtend 16) s.a code cycles fun t =>
        t.f = s.f ∧ Frame [] [0xFF00 + off.zeroExtend 16] n s t) ∧
    (off = 0xFF → s.params.ldhAllowFFFF = false → Raises i s (.highPageRange 0xFFFF)) := by
  refine ⟨fun hallow => ?allowed, fun hoff hparam => ?refused⟩
  case allowed =>
    have hallowed : (s.advance n).highPageAllowed off = true := (highPageAllowed_iff s off).mpr hallow
    exact stores_of_next hcode hcycles (hexec.trans (highAddr_ok hallowed))
  case refused => exact ⟨_, hexec.trans (highAddr_fails (highPageAllowed_eq_false hoff hparam)), rfl⟩

/-- Settles O31: both forms are `loadAccHigh`, with the offset after the opcode or in C. -/
theorem highPageLoads : Obligations.HighPageLoads := by
  rintro s off i code cycles length (⟨rfl, rfl, rfl, rfl⟩ | ⟨rfl, rfl, rfl, rfl, rfl⟩)
  · exact highPageLoad_of_loadAccHigh rfl rfl rfl
  · exact highPageLoad_of_loadAccHigh rfl rfl rfl

/-- Settles O32: both forms are `storeAccHigh`, with the offset after the opcode or in C. -/
theorem highPageStores : Obligations.HighPageStores := by
  rintro s off i code cycles length (⟨rfl, rfl, rfl, rfl⟩ | ⟨rfl, rfl, rfl, rfl, rfl⟩)
  · exact highPageStore_of_storeAccHigh rfl rfl rfl
  · exact highPageStore_of_storeAccHigh rfl rfl rfl

end Sys2Proof.Machine
end

section
/-! PROOFS. 42_load_16bit_stack.md: the 16-bit loads (R160 to R163), the pushes (R164) and the pop after a push (R166), and
44_alu_16bit.md (R220 to R223). -/

namespace Sys2Proof.Machine

/-! ### The operands of the table rp -/

/-- R84: of the four operands only SP is not made of registers. -/
theorem setReg16_sp_of_ne_sp (s : State) {rr : Reg16} (v : Addr) (hne : rr ≠ .sp) : (s.setReg16 rr v).sp = s.sp := by
  cases rr with
  | sp => exact absurd rfl hne
  | bc => exact setPair_sp s .bc v
  | de => exact setPair_sp s .de v
  | hl => exact setPair_sp s .hl v

/-- An instruction that writes `v` to one 16-bit operand and asks the collaborator nothing. -/
theorem completes_of_setReg16 {i : Instr} {s : State} {code : List Byte} {cycles : Byte} {n : Addr} {rr : Reg16} {v : Addr}
    (hcode : encode i = code) (hcycles : cycleReport i s = some cycles)
    (hexec : exec i s = .next ((s.advance n).setReg16 rr v)) :
    Completes i s code cycles fun t =>
      t.reg16 rr = v ∧ t.f = s.f ∧ KeepsRegs (reg16Regs rr) s t ∧ KeepsMem [] s t ∧ (rr ≠ .sp → t.sp = s.sp) ∧
        t.pc = s.pc + n := by
  have hregs : KeepsRegs (reg16Regs rr) s ((s.advance n).setReg16 rr v) := fun r hr => by
    rw [keepsRegs_setReg16 _ rr v r hr, advance_reg]
  exact completesWith_of hcode hcycles hexec
    ⟨_, rfl, by simp, by simp, by simp, by simp, setReg16_reg16 _ rr v, by simp, hregs, keepsMem_of_mem_eq [] (by simp),
      setReg16_sp_of_ne_sp _ v, by simp⟩

/-- Settles O33: one write of the immediate. -/
theorem ldReg16Imm : Obligations.LdReg16Imm := fun rr nn s =>
  completes_of_setReg16 (encode_ldReg16Imm rr nn) (cycles_ldReg16Imm rr nn s) (exec_ldReg16Imm rr nn s)

/-- Settles O46: one write of the operand's successor or predecessor. -/
theorem incDecReg16 : Obligations.IncDecReg16 := fun rr s =>
  ⟨completes_of_setReg16 (encode_incReg16 rr) (cycles_incReg16 rr s) (exec_incReg16 rr s),
    completes_of_setReg16 (encode_decReg16 rr) (cycles_decReg16 rr s) (exec_decReg16 rr s)⟩

/-! ### LD (nn),SP -/

theorem keepsMem_afterWrite_afterWrite (s : State) (n x y : Addr) (v w : Byte) :
    KeepsMem [x, y] s (((s.afterWrite x v).afterWrite y w).advance n) :=
  keepsMem_setByte_setByte rfl

/-- Settles O34: the high byte goes to another cell, so the low byte stays where it was written. -/
theorem ldAtNnSp : Obligations.LdAtNnSp := by
  intro nn s
  have hexec : exec (.ldAtNnSp nn) s = writeWord nn s.sp (s.advance 3) .next := rfl
  have hsecond : s.writeFails nn (loByte s.sp) = false → exec (.ldAtNnSp nn) s =
      writeByte (nn + 1) (hiByte s.sp) ((s.afterWrite nn (loByte s.sp)).advance 3) .next := fun hlo =>
    hexec.trans (writeByte_ok (s := s.advance 3) hlo)
  refine ⟨fun hlo hhi => ?completes, fun hlo => ?low, fun hlo hhi => ?high⟩
  case completes =>
    have hne : nn ≠ nn + 1 := by bv_omega
    have hlow : ((s.afterWrite nn (loByte s.sp)).afterWrite (nn + 1) (hiByte s.sp)).byteAt nn = loByte s.sp := by
      rw [afterWrite_byteAt_other _ _ _ _ hne, afterWrite_byteAt_same]
    exact completesWith_of rfl rfl ((hsecond hlo).trans (writeByte_ok (s := (s.afterWrite nn (loByte s.sp)).advance 3) hhi))
      ⟨_, rfl, rfl, rfl, rfl, rfl, hlow, by simp, rfl, fun r _ => by simp, keepsMem_afterWrite_afterWrite _ _ _ _ _ _,
        rfl, rfl⟩
  case low => exact ⟨_, hexec.trans (writeByte_fails (s := s.advance 3) hlo), rfl⟩
  case high => exact ⟨_, (hsecond hlo).trans (writeByte_fails (s := (s.afterWrite nn (loByte s.sp)).advance 3) hhi), rfl⟩

/-! ### 16-bit sums -/

theorem toNat_and_lowByte (v : Addr) : (v &&& 0x00FF).toNat = v.toNat % 256 :=
  Nat.and_two_pow_sub_one_eq_mod v.toNat 8

theorem toNat_and_lowNibble16 (v : Addr) : (v &&& 0x000F).toNat = v.toNat % 16 :=
  Nat.and_two_pow_sub_one_eq_mod v.toNat 4

theorem toNat_and_low12 (v : Addr) : (v &&& 0x0FFF).toNat = v.toNat % 4096 :=
  Nat.and_two_pow_sub_one_eq_mod v.toNat 12

/-- R163, R223: SP plus the sign-extended byte, modulo 65536. -/
theorem add_sext16_eq (v : Addr) (e : Byte) : v + sext16 e = BitVec.ofNat 16 (v.toNat + sextNat e) := by
  rw [sext16_eq_ofNat_sextNat, BitVec.ofNat_add, BitVec.ofNat_toNat, BitVec.setWidth_eq]

/-- R163, R223: the flags of the unsigned addition of SP's low byte and the raw byte, as numbers. -/
theorem addSpFlags_eq (e : Byte) (s : State) : addSpFlags e s =
    s.setFlags false false (decide (s.sp.toNat % 16 + e.toNat % 16 > 15)) (decide (s.sp.toNat % 256 + e.toNat > 255)) := by
  have hhalf : spHalfCarry s.sp e = decide (s.sp.toNat % 16 + e.toNat % 16 > 15) := by
    rw [spHalfCarry, toNat_and_lowNibble16]
    exact congrArg (fun k => decide (s.sp.toNat % 16 + k > 15)) (toNat_and_lowNibble e)
  have hcarry : spCarry s.sp e = decide (s.sp.toNat % 256 + e.toNat > 255) := by
    rw [spCarry, toNat_and_lowByte]
  rw [addSpFlags, hhalf, hcarry]

/-- R108 as numbers. -/
theorem halfCarry16_eq (x y : Addr) : halfCarry16 x y = decide (x.toNat % 4096 + y.toNat % 4096 > 4095) := by
  rw [halfCarry16, toNat_and_low12, toNat_and_low12]

/-- The end of an instruction that writes HL and the flags and asks the collaborator nothing. -/
theorem completes_of_setPair_hl_setFlags {i : Instr} {s : State} {code : List Byte} {cycles : Byte} {length v : Addr}
    {z n h c : Bool} (hcode : encode i = code) (hcycles : cycleReport i s = some cycles)
    (hexec : exec i s = .next (((s.advance length).setPair .hl v).setFlags z n h c)) :
    Completes i s code cycles fun t => t.hl = v ∧ HasFlags t z n h c ∧ Frame [.h, .l] [] length s t := by
  have hframe : Frame [.h, .l] [] length s ((s.advance length).setPair .hl v) :=
    ⟨keepsRegs_setPair (s.advance length) .hl v, keepsMem_of_mem_eq [] rfl, rfl, rfl⟩
  exact completesWith_of hcode hcycles hexec ⟨_, rfl, rfl, rfl, rfl, rfl, (setFlags_hl _ z n h c).trans (setPair_hl _ v),
    hasFlags_setFlags _ z n h c, frame_setFlags z n h c hframe⟩

/-- Settles O47: one write of HL and one of the flags, with the sum and the carries as numbers. -/
theorem AddHl.addHlReg16 : Obligations.AddHlReg16 := by
  intro rr s
  have hsum : s.hl + s.reg16 rr = BitVec.ofNat 16 (s.hl.toNat + (s.reg16 rr).toNat) := by bv_omega
  refine completes_of_setPair_hl_setFlags (encode_addHlReg16 rr) (cycles_addHlReg16 rr s) ?_
  rw [exec_addHlReg16, ← hsum, ← halfCarry16_eq]
  rfl

/-- Settles O35: SP takes HL; HL or SP takes the sum, with the flags of `addSpFlags`. -/
theorem stackPointerArithmetic : Obligations.StackPointerArithmetic := by
  intro s e
  refine ⟨?ldSpHl, ?ldHlSpE, ?addSpE⟩
  case ldSpHl =>
    exact completesWith_of rfl rfl (res := .next ((s.advance 1).setSp s.hl)) rfl
      ⟨_, rfl, rfl, rfl, rfl, rfl, rfl, rfl, fun r _ => by simp, keepsMem_of_mem_eq [] rfl, rfl⟩
  case ldHlSpE =>
    refine completes_of_setPair_hl_setFlags rfl rfl ?_
    rw [← add_sext16_eq]
    exact congrArg (fun u => Host.Outcome.next (State.setPair u .hl (s.sp + sext16 e))) (addSpFlags_eq e (s.advance 2))
  case addSpE =>
    have hexec : exec (.addSpE e) s = .next ((addSpFlags e (s.advance 2)).setSp (s.sp + sext16 e)) := rfl
    rw [add_sext16_eq, addSpFlags_eq] at hexec
    exact completesWith_of rfl rfl hexec
      ⟨_, rfl, rfl, rfl, rfl, rfl, rfl, hasFlags_setFlags (s.advance 2) _ _ _ _, fun r _ => by simp,
        keepsMem_of_mem_eq [] rfl, rfl⟩

/-! ### The stack -/

theorem setPc_eq_self {u : State} {v : Addr} (h : u.pc = v) : u.setPc v = u := by
  subst h
  rfl

/-- Settles O36: `push16` of the pair, past one byte. -/
theorem pushStoresPair : Obligations.PushStoresPair := fun qq s =>
  pushes_of (fun u => u) (encode_push qq) (cycles_push qq s) (exec_push qq s) fun _ hu => (setPc_eq_self hu).symm

/-- Where a push of `v` at `s` has ended in `t` without raising. -/
structure Pushed (s : State) (v pc : Addr) (t : State) : Prop where
  high : t.byteAt (s.sp - 1) = hiByte v
  low : t.byteAt (s.sp - 2) = loByte v
  sp : t.sp = s.sp - 2
  pc : t.pc = pc
  f : t.f = s.f
  regs : KeepsRegs [] s t

/-- A push that does not raise has made both its writes. -/
theorem pushed_of_completed {i : Instr} {s t : State} {v : Addr} {code : List Byte} {cycles : Byte} {pc : Addr}
    (h : Pushes i s v code cycles pc) (hexec : exec i s = .next t) (ht : t.fault = none) : Pushed s v pc t := by
  obtain ⟨-, hhigh, hlow, hsp, hpc, hf, hregs, -⟩ := completedAs_of_accesses h t hexec ht
  exact ⟨hhigh, hlow, hsp, hpc, hf, hregs⟩

/-- 40_primitives_dispatch.md R120: a pop whose reads are answered takes the value pushed and gives SP back. -/
theorem pops_pushed {i : Instr} {s t : State} {v pc : Addr} {code : List Byte} {cycles : Byte} {post : Addr → State → Prop}
    (hpushed : Pushed s v pc t) (ht : t.fault = none) (hpops : Pops i t code cycles post)
    (hlo : t.readFails t.sp = false) (hhi : (t.afterRead t.sp).readFails (t.sp + 1) = false) :
    ∃ u, exec i t = .next u ∧ u.fault = none ∧ u.sp = s.sp ∧ post v u := by
  obtain ⟨-, -, u, hu, hfault, -, -, -, hsp, -, hpost⟩ := hpops.1 hlo hhi
  have hsecond : t.sp + 1 = s.sp - 1 := by rw [hpushed.sp]; bv_omega
  have hvalue : joinBytes (t.byteAt (t.sp + 1)) (t.byteAt t.sp) = v := by
    rw [hsecond, hpushed.sp, hpushed.high, hpushed.low, join_hi_lo]
  rw [hvalue] at hpost
  exact ⟨u, hu, hfault.trans ht, by rw [hsp, hpushed.sp]; bv_omega, hpost⟩

/-- R21, R166: the mask of `POP AF` loses nothing of an F whose low nibble is zero. -/
theorem f_eq_of_pair_af_masked {s u : State} (hpair : u.pair .af = s.pair .af &&& 0xFFF0) (hlow : s.f &&& 0x0F = 0) :
    u.f = s.f := by
  rw [← setPair_pair_af s] at hpair
  calc u.f
    _ = loByte (u.pair .af) := (loByte_join u.a u.f).symm
    _ = loByte ((s.setPair .af (s.pair .af)).pair .af) := by rw [hpair]
    _ = loByte (s.pair .af) &&& 0xF0 := loByte_join _ _
    _ = s.f &&& 0xF0 := by rw [State.pair, loByte_join]
    _ = s.f &&& 0xF0 ||| s.f &&& 0x0F := by rw [hlow]; exact BitVec.or_zero.symm
    _ = s.f &&& (0xF0 ||| 0x0F) := (BitVec.and_or_distrib_left).symm
    _ = s.f := BitVec.and_allOnes

/-- Settles O38: `popLoadsPair` on the stack `pushStoresPair` leaves. -/
theorem popAfterPush : Obligations.PopAfterPush := by
  intro qq qq' s t hexec ht hlo hhi
  have hpushed := pushed_of_completed (pushStoresPair qq s) hexec ht
  obtain ⟨u, hu, hfault, hsp, hpair, -, hregs, -⟩ := pops_pushed hpushed ht (popLoadsPair qq' t) hlo hhi
  have hregs' : KeepsRegs (pairRegs qq') s u := keepsRegs_trans hpushed.regs hregs
  refine ⟨u, hu, hfault, hsp, hpair, hregs', ?af⟩
  rintro rfl rfl hlow
  exact f_eq_of_pair_af_masked hpair hlow

end Sys2Proof.Machine
end

section
/-! PROOFS. 43_alu_8bit.md: `INC (HL)` and `DEC (HL)` (R181, R183), the ALU operations from all three sources (R170 to R177,
R184 to R207), `DAA` (R208), `CPL`, `SCF` and `CCF` (R209 to R211). -/

namespace Sys2Proof.Machine

/-! ### The byte at HL -/

/-- An instruction that reads a byte, stores there `g` of it, and writes the flags `fl` of it last. -/
theorem updates_of_putFlags {i : Instr} {s : State} {x : Addr} {v : Byte} {code : List Byte} {cycles : Byte} {length : Addr}
    {z n h c : Bool} (g : Byte → Byte) (fl : Byte → Flags) (hcode : encode i = code)
    (hcycles : cycleReport i s = some cycles)
    (hexec : exec i s = readByte x (s.advance length) fun old u =>
      writeByte x (g old) u fun w => .next (w.putFlags (fl old)))
    (hv : g (s.byteAt x) = v) (hfl : fl (s.byteAt x) = ⟨z, n, h, c⟩) :
    Updates i s x v code cycles fun t => HasFlags t z n h c ∧ Frame [] [x] length s t := by
  refine updates_of hcode hcycles hexec hv ?ends
  have hframe : Frame [] [x] length s (((s.afterRead x).afterWrite x v).advance length) :=
    ⟨fun r _ => by simp, keepsMem_setByte rfl, rfl, rfl⟩
  rw [hfl]
  exact ⟨_, rfl, rfl, rfl, rfl, rfl, afterWrite_byteAt_same _ x v, hasFlags_setFlags _ z n h c,
    frame_setFlags z n h c hframe⟩

/-- Settles O40: one read, one write and the flags, whose values are those of the primitives in arithmetic. -/
theorem incDecAtHl : Obligations.IncDecAtHl := by
  intro s
  refine ⟨?inc, ?dec⟩
  case inc =>
    refine updates_of_putFlags (fun old => (increment old).1)
      (fun old => ⟨decide ((increment old).1 = 0), false, (increment old).2, s.flagC⟩) rfl rfl rfl ?_ ?_
    · rw [increment_eq]
    · simp only [increment_eq, ofNat_add_one_eq_zero_iff]
  case dec =>
    refine updates_of_putFlags (fun old => (decrement old).1)
      (fun old => ⟨decide ((decrement old).1 = 0), true, (decrement old).2, s.flagC⟩) rfl rfl rfl ?_ ?_
    · rw [decrement_eq]
    · simp only [decrement_eq, ofNat_add_255_eq_zero_iff]

/-! ### The ALU functions in arithmetic -/

theorem ofNat_eq_zero_iff (k : Nat) : BitVec.ofNat 8 k = 0 ↔ k % 256 = 0 := by
  rw [← BitVec.toNat_inj, BitVec.toNat_ofNat]
  rfl

/-- R170. -/
theorem aluAdd_eq (a v : Byte) : aluAdd a v = (BitVec.ofNat 8 (a.toNat + v.toNat),
    ⟨decide ((a.toNat + v.toNat) % 256 = 0), false, decide (a.toNat % 16 + v.toNat % 16 > 15),
      decide (a.toNat + v.toNat > 255)⟩) := by
  have hresult : a + v = BitVec.ofNat 8 (a.toNat + v.toNat) := by bv_omega
  simp only [aluAdd, willHalfCarry, willCarry, toNat_and_lowNibble, hresult, ofNat_eq_zero_iff]

/-- R171: the carry-in is a term of each sum. -/
theorem aluAdc_eq (a v : Byte) (cin : Bool) : aluAdc a v cin = (BitVec.ofNat 8 (a.toNat + v.toNat + cin.toNat),
    ⟨decide ((a.toNat + v.toNat + cin.toNat) % 256 = 0), false, decide (a.toNat % 16 + v.toNat % 16 + cin.toNat > 15),
      decide (a.toNat + v.toNat + cin.toNat > 255)⟩) := by
  have hresult : a + v + carryByte cin = BitVec.ofNat 8 (a.toNat + v.toNat + cin.toNat) := by
    simp only [carryByte, BitVec.ofNat_add, BitVec.ofNat_toNat, BitVec.setWidth_eq]
  simp only [aluAdc, halfCarry3, carry3, toNat_and_lowNibble, hresult, ofNat_eq_zero_iff]

/-- R172. -/
theorem aluSub_eq (a v : Byte) : aluSub a v = (BitVec.ofNat 8 (a.toNat + 256 - v.toNat),
    ⟨decide (a.toNat = v.toNat), true, decide (a.toNat % 16 < v.toNat % 16), decide (a.toNat < v.toNat)⟩) := by
  have hresult : a - v = BitVec.ofNat 8 (a.toNat + 256 - v.toNat) := by bv_omega
  have hzero : a - v = 0 ↔ a.toNat = v.toNat := by bv_omega
  simp only [aluSub, willHalfBorrow, willBorrow, toNat_and_lowNibble, hzero]
  rw [hresult]

/-- R173: the carry-in is a term of each difference. -/
theorem aluSbc_eq (a v : Byte) (cin : Bool) : aluSbc a v cin = (BitVec.ofNat 8 (a.toNat + 512 - v.toNat - cin.toNat),
    ⟨decide ((a.toNat + 512 - v.toNat - cin.toNat) % 256 = 0), true, decide (a.toNat % 16 < v.toNat % 16 + cin.toNat),
      decide (a.toNat < v.toNat + cin.toNat)⟩) := by
  have hcin := Bool.toNat_le cin
  have hresult : a - v - carryByte cin = BitVec.ofNat 8 (a.toNat + 512 - v.toNat - cin.toNat) := by
    unfold carryByte
    generalize cin.toNat = k at hcin
    bv_omega
  simp only [aluSbc, halfBorrow3, borrow3, toNat_and_lowNibble, hresult, ofNat_eq_zero_iff]

/-! ### The three sources -/

/-- The tail of R184 to R207 leaves what the ALU function answers in A and F. `u` is the state after the operand's read. -/
theorem ends_accumulate {op : AluOp} {s u : State} {v r : Byte} {z n h c : Bool} {k : Nat} (length : Addr)
    (hu : u = { s with collabState := k }) (halu : alu op s.a v s.flagC = (r, ⟨z, n, h, c⟩)) :
    Ends u s (fun t => t.a = r ∧ HasFlags t z n h c ∧ Frame [.a] [] length s t)
      (.next (accumulate op v (u.advance length))) := by
  have hacc : accumulate op v (u.advance length) = ((u.advance length).setReg .a r).setFlags z n h c := by
    have hafter : alu op (u.advance length).a v (u.advance length).flagC = (r, ⟨z, n, h, c⟩) := by
      subst hu
      exact halu
    simp only [accumulate, hafter, State.putFlags]
  rw [hacc]
  exact ends_setReg_setFlags length .a r z n h c hu

/-- What the ALU function answers is what each of the three forms leaves in A and F. -/
theorem aluCompletes_of_alu {op : AluOp} {src : AluSource} {s : State} {r : Byte} {z n h c : Bool}
    (halu : alu op s.a (src.value s) s.flagC = (r, ⟨z, n, h, c⟩)) : AluCompletes op src s r z n h c := by
  cases src with
  | reg r' =>
    have hexec : exec (.aluReg op r') s = .next (accumulate op (s.reg r') (s.advance 1)) := exec_aluReg op r' s
    exact ⟨fun _ => completesWith_of (encode_aluReg op r') (cycles_aluReg op r' s) hexec (ends_accumulate 1 rfl halu),
      fun hsrc => nomatch hsrc⟩
  | imm m =>
    have hexec : exec (.aluImm op m) s = .next (accumulate op m (s.advance 2)) := exec_aluImm op m s
    exact ⟨fun _ => completesWith_of (encode_aluImm op m) (cycles_aluImm op m s) hexec (ends_accumulate 2 rfl halu),
      fun hsrc => nomatch hsrc⟩
  | atHl =>
    have hexec : exec (.aluAtHl op) s = readByte s.hl (s.advance 1) fun v u => .next (accumulate op v u) :=
      exec_aluAtHl op s
    obtain ⟨hanswered, hrefused⟩ := loads_of (post := fun _ t => t.a = r ∧ HasFlags t z n h c ∧ Frame [.a] [] 1 s t)
      (encode_aluAtHl op) (cycles_aluAtHl op s) hexec fun v hv => by
        subst hv
        exact ends_accumulate 1 rfl halu
    exact ⟨hanswered, fun _ => hrefused⟩

/-- Settles O41: `alu` of the two operations is `aluAdd` and `aluAdc`. -/
theorem addAndAdc : Obligations.AddAndAdc := fun src s =>
  ⟨aluCompletes_of_alu (aluAdd_eq s.a (src.value s)), aluCompletes_of_alu (aluAdc_eq s.a (src.value s) s.flagC)⟩

/-- Settles O42: `alu` of the three operations is `aluSub`, `aluSbc`, and A with the flags of `aluSub`. -/
theorem subSbcAndCp : Obligations.SubSbcAndCp := fun src s =>
  have hsub := aluSub_eq s.a (src.value s)
  ⟨aluCompletes_of_alu hsub, aluCompletes_of_alu (aluSbc_eq s.a (src.value s) s.flagC),
    aluCompletes_of_alu (congrArg (fun answer => (s.a, answer.2)) hsub)⟩

/-- Settles O43: bitwise, and the two results that say when they are zero. -/
theorem andXorAndOr : Obligations.AndXorAndOr := by
  intro src s
  have hxor : aluXor s.a (src.value s) = (s.a ^^^ src.value s, ⟨decide (s.a = src.value s), false, false, false⟩) := by
    have hzero : s.a ^^^ src.value s = 0 ↔ s.a = src.value s := BitVec.xor_eq_zero_iff
    simp only [aluXor, hzero]
  have hor : aluOr s.a (src.value s) =
      (s.a ||| src.value s, ⟨decide (s.a = 0 ∧ src.value s = 0), false, false, false⟩) := by
    have hzero : s.a ||| src.value s = 0 ↔ s.a = 0 ∧ src.value s = 0 := BitVec.or_eq_zero_iff
    simp only [aluOr, hzero]
  exact ⟨aluCompletes_of_alu rfl, aluCompletes_of_alu hxor, aluCompletes_of_alu hor⟩

/-! ### DAA -/

/-- R208: the adjustment as a number. -/
def daaAmount (low high : Bool) : Nat := (if low then 0x06 else 0) + (if high then 0x60 else 0)

theorem daaAmount_le (low high : Bool) : daaAmount low high ≤ 0x66 := by cases low <;> cases high <;> decide

/-- R208: the adjustment as the model's byte. -/
theorem ofNat_daaAmount (low high : Bool) :
    (if low then (0x06 : Byte) else 0) + (if high then (0x60 : Byte) else 0) = BitVec.ofNat 8 (daaAmount low high) := by
  cases low <;> cases high <;> rfl

/-- R208, after a subtraction: only the flags decide. -/
theorem daaAdjust_sub (a : Byte) (h c : Bool) :
    daaAdjust a true h c = (BitVec.ofNat 8 (a.toNat + 256 - daaAmount h c), c) := by
  have hle := daaAmount_le h c
  have hresult : a - BitVec.ofNat 8 (daaAmount h c) = BitVec.ofNat 8 (a.toNat + 256 - daaAmount h c) := by
    generalize daaAmount h c = k at hle
    bv_omega
  simp only [daaAdjust, if_true, ofNat_daaAmount, hresult]

/-- R208, after an addition: the old A decides with the flags. -/
theorem daaAdjust_add (a : Byte) (h c : Bool) :
    let low := h || decide (a.toNat % 16 > 9)
    let high := c || decide (a.toNat > 0x99)
    daaAdjust a false h c = (BitVec.ofNat 8 (a.toNat + daaAmount low high), high) := by
  intro low high
  have hnibble : (a &&& 0x0F).toNat = a.toNat % 16 := toNat_and_lowNibble a
  have hresult : a + BitVec.ofNat 8 (daaAmount low high) = BitVec.ofNat 8 (a.toNat + daaAmount low high) := by
    rw [BitVec.ofNat_add, BitVec.ofNat_toNat, BitVec.setWidth_eq]
  simp only [daaAdjust, Bool.false_eq_true, if_false, ofNat_daaAmount, hnibble]
  exact congrArg (·, high) hresult

/-- Settles O44: along N, which of the two branches the adjustment takes. -/
theorem Daa.decimalAdjust : Obligations.DecimalAdjust := by
  intro s a high low adj r
  have hadjust : daaAdjust s.a s.flagN s.flagH s.flagC = (BitVec.ofNat 8 r, high) := by
    have hadj : adj = daaAmount low high := rfl
    cases hn : s.flagN with
    | true =>
      have hlow : low = s.flagH := by simp [low, hn]
      have hhigh : high = s.flagC := by simp [high, hn]
      have hr : r = a + 256 - adj := by simp [r, hn]
      rw [daaAdjust_sub, hr, hadj, hlow, hhigh]
    | false =>
      have hlow : low = (s.flagH || decide (a % 16 > 9)) := by simp [low, hn]
      have hhigh : high = (s.flagC || decide (a > 0x99)) := by simp [high, hn]
      have hr : r = a + adj := by simp [r, hn]
      rw [daaAdjust_add, hr, hadj, hlow, hhigh]
  refine completes_of_setReg_setFlags (r := .a) rfl rfl ?_
  have hexec : exec .daa s = .next (((s.advance 1).setReg .a (daaAdjust s.a s.flagN s.flagH s.flagC).1).setFlags
      (decide ((daaAdjust s.a s.flagN s.flagH s.flagC).1 = 0)) s.flagN false
      (daaAdjust s.a s.flagN s.flagH s.flagC).2) := rfl
  rw [hexec, hadjust]
  simp only [ofNat_eq_zero_iff]

/-! ### CPL, SCF and CCF -/

/-- R209: the complement in arithmetic. -/
theorem xor_ones_eq (v : Byte) : v ^^^ 0xFF = BitVec.ofNat 8 (255 - v.toNat) := by
  have hnot : v ^^^ 0xFF = ~~~v := BitVec.xor_allOnes
  rw [hnot]
  bv_omega

/-- The end of an instruction that writes the flags alone. `u` is the state after its accesses. -/
theorem ends_setFlags {s u : State} {k : Nat} (length : Addr) (z n h c : Bool) (hu : u = { s with collabState := k }) :
    Ends u s (fun t => HasFlags t z n h c ∧ Frame [] [] length s t) (.next ((u.advance length).setFlags z n h c)) := by
  have hframe : Frame [] [] length s (u.advance length) := by
    subst hu
    exact ⟨fun r _ => advance_reg s length r, keepsMem_of_mem_eq [] rfl, rfl, rfl⟩
  exact ⟨_, rfl, by simp [hu], by simp [hu], by simp, by simp [hu], hasFlags_setFlags _ z n h c,
    frame_setFlags z n h c hframe⟩

/-- An instruction that writes the flags alone and asks the collaborator nothing. -/
theorem completes_of_setFlags {i : Instr} {s : State} {code : List Byte} {cycles : Byte} {length : Addr} {z n h c : Bool}
    (hcode : encode i = code) (hcycles : cycleReport i s = some cycles)
    (hexec : exec i s = .next ((s.advance length).setFlags z n h c)) :
    Completes i s code cycles fun t => HasFlags t z n h c ∧ Frame [] [] length s t :=
  completesWith_of hcode hcycles hexec (ends_setFlags length z n h c rfl)

/-- Settles O45: `CPL` writes A and the flags, `SCF` and `CCF` the flags alone. -/
theorem complementAndCarryFlag : Obligations.ComplementAndCarryFlag := by
  intro s
  refine ⟨?cpl, ?scf, ?ccf⟩
  case cpl =>
    rw [← xor_ones_eq]
    exact completes_of_setReg_setFlags (r := .a) rfl rfl rfl
  case scf => exact completes_of_setFlags rfl rfl rfl
  case ccf => exact completes_of_setFlags rfl rfl rfl

end Sys2Proof.Machine
end

section
/-! PROOFS. 45_rotate_shift_bit.md: the rotates and shifts (R230 to R250) and the bit operations (R251 to R256). -/

namespace Sys2Proof.Machine

/-! ### Bits in arithmetic -/

theorem getLsbD_eq_decide (v : Byte) (k : Nat) : v.getLsbD k = decide (v.toNat / 2 ^ k % 2 = 1) :=
  Nat.testBit_eq_decide_div_mod_eq

theorem toNat_getLsbD_seven (v : Byte) : (v.getLsbD 7).toNat = v.toNat / 128 := by
  have hbit : (v.getLsbD 7).toNat = v.toNat / 128 % 2 := Nat.toNat_testBit v.toNat 7
  omega

theorem toNat_getLsbD_zero (v : Byte) : (v.getLsbD 0).toNat = v.toNat % 2 := by
  have hbit : (v.getLsbD 0).toNat = v.toNat / 1 % 2 := Nat.toNat_testBit v.toNat 0
  omega

theorem getLsbD_seven_eq_decide (v : Byte) : v.getLsbD 7 = decide (v.toNat / 128 = 1) := by
  rw [getLsbD_eq_decide, decide_eq_decide]
  omega

theorem getLsbD_zero_eq_decide (v : Byte) : v.getLsbD 0 = decide (v.toNat % 2 = 1) := by
  rw [getLsbD_eq_decide, Nat.pow_zero, Nat.div_one]

theorem toNat_carryByte (b : Bool) : (carryByte b).toNat = b.toNat := by cases b <;> rfl

theorem toNat_carryByte_shifted (b : Bool) : (carryByte b <<< 7).toNat = 128 * b.toNat := by cases b <;> rfl

/-- A shift to the left with a bit put in below. -/
theorem toNat_shiftLeft_or_carryByte (v : Byte) (b : Bool) :
    (v <<< 1 ||| carryByte b).toNat = 2 * v.toNat % 256 + b.toNat :=
  calc (v <<< 1 ||| carryByte b).toNat
    _ = v.toNat <<< 1 % 256 ||| b.toNat := by rw [BitVec.toNat_or, BitVec.toNat_shiftLeft, toNat_carryByte]
    _ = (v.toNat % 128) <<< 1 ||| b.toNat := by rw [Nat.shiftLeft_eq, Nat.shiftLeft_eq]; congr 1; omega
    _ = (v.toNat % 128) <<< 1 + b.toNat := (Nat.shiftLeft_add_eq_or_of_lt (Bool.toNat_lt b) _).symm
    _ = 2 * v.toNat % 256 + b.toNat := by rw [Nat.shiftLeft_eq]; omega

/-- A shift to the right with a bit put in above. -/
theorem toNat_ushiftRight_or_carryByte (v : Byte) (b : Bool) :
    (v >>> 1 ||| carryByte b <<< 7).toNat = v.toNat / 2 + 128 * b.toNat := by
  have hlt : v.toNat / 2 < 2 ^ 7 := by omega
  calc (v >>> 1 ||| carryByte b <<< 7).toNat
    _ = v.toNat / 2 ||| 128 * b.toNat := by
      rw [BitVec.toNat_or, BitVec.toNat_ushiftRight, toNat_carryByte_shifted, Nat.shiftRight_eq_div_pow, Nat.pow_one]
    _ = 128 * b.toNat + v.toNat / 2 := (Nat.or_comm _ _).trans (Nat.two_pow_add_eq_or_of_lt hlt b.toNat).symm
    _ = v.toNat / 2 + 128 * b.toNat := Nat.add_comm _ _

/-- The two nibbles change places. -/
theorem toNat_swap (v : Byte) : (v <<< 4 ||| v >>> 4).toNat = v.toNat % 16 * 16 + v.toNat / 16 := by
  have hlt : v.toNat / 16 < 2 ^ 4 := by omega
  calc (v <<< 4 ||| v >>> 4).toNat
    _ = v.toNat <<< 4 % 256 ||| v.toNat / 16 := by
      rw [BitVec.toNat_or, BitVec.toNat_shiftLeft, BitVec.toNat_ushiftRight, Nat.shiftRight_eq_div_pow]
    _ = (v.toNat % 16) <<< 4 ||| v.toNat / 16 := by rw [Nat.shiftLeft_eq, Nat.shiftLeft_eq]; congr 1; omega
    _ = (v.toNat % 16) <<< 4 + v.toNat / 16 := (Nat.shiftLeft_add_eq_or_of_lt hlt _).symm
    _ = v.toNat % 16 * 16 + v.toNat / 16 := by rw [Nat.shiftLeft_eq]

/-- `v & 0x80` is bit 7 in its place. -/
theorem and_top_eq (v : Byte) : v &&& (0x80 : Byte) = carryByte (v.getLsbD 7) <<< 7 := by
  have htop : v &&& (0x80 : Byte) = if v.getLsbD 7 = true then BitVec.twoPow 8 7 else 0#8 := BitVec.and_twoPow v 7
  rw [htop]
  cases v.getLsbD 7 <;> rfl

/-! ### The rotate functions in arithmetic -/

theorem toNat_rotate (op : RotOp) (v : Byte) (cin : Bool) :
    (rotate op v cin).1.toNat = rotResult op v.toNat cin.toNat := by
  cases op with
  | rlc => exact (toNat_shiftLeft_or_carryByte v _).trans (by rw [toNat_getLsbD_seven, rotResult])
  | rrc => exact (toNat_ushiftRight_or_carryByte v _).trans (by rw [toNat_getLsbD_zero, rotResult])
  | rl => exact toNat_shiftLeft_or_carryByte v cin
  | rr => exact toNat_ushiftRight_or_carryByte v cin
  | sla => exact (BitVec.toNat_shiftLeft).trans (by rw [Nat.shiftLeft_eq, Nat.mul_comm]; rfl)
  | sra =>
    have hsra : (rotate .sra v cin).1 = v >>> 1 ||| carryByte (v.getLsbD 7) <<< 7 := by rw [← and_top_eq]; rfl
    rw [hsra, toNat_ushiftRight_or_carryByte, toNat_getLsbD_seven, rotResult]
  | swap => exact toNat_swap v
  | srl => exact BitVec.toNat_ushiftRight v 1

theorem rotate_carry (op : RotOp) (v : Byte) (cin : Bool) : (rotate op v cin).2 = rotCarry op v.toNat := by
  cases op with
  | swap => rfl
  | rlc | rl | sla => exact getLsbD_seven_eq_decide v
  | rrc | rr | sra | srl => exact getLsbD_zero_eq_decide v

/-- R234 as numbers. -/
theorem rotate_eq (op : RotOp) (v : Byte) (cin : Bool) :
    rotate op v cin = (BitVec.ofNat 8 (rotResult op v.toNat cin.toNat), rotCarry op v.toNat) := by
  rw [← toNat_rotate, ← rotate_carry op v cin, BitVec.ofNat_toNat, BitVec.setWidth_eq]

/-- A result fits a byte, so that it is zero as a byte exactly when it is zero. -/
theorem ofNat_rotResult_eq_zero_iff (op : RotOp) (v : Byte) (cin : Bool) :
    BitVec.ofNat 8 (rotResult op v.toNat cin.toNat) = 0 ↔ rotResult op v.toNat cin.toNat = 0 := by
  have hlt : rotResult op v.toNat cin.toNat < 256 := toNat_rotate op v cin ▸ (rotate op v cin).1.isLt
  rw [ofNat_eq_zero_iff, Nat.mod_eq_of_lt hlt]

/-! ### The rotates and shifts -/

theorem completes_of_rotateAcc {i : Instr} {s : State} {code : List Byte} {op : RotOp} (hcode : encode i = code)
    (hcycles : cycleReport i s = some 4) (hexec : exec i s = rotateAcc op s) :
    Completes i s code 4 fun t =>
      t.a = BitVec.ofNat 8 (rotResult op s.a.toNat s.flagC.toNat) ∧ HasFlags t false false false (rotCarry op s.a.toNat) ∧
        Frame [.a] [] 1 s t := by
  rw [rotateAcc, rotate_eq] at hexec
  exact completes_of_setReg_setFlags (r := .a) hcode hcycles hexec

/-- Settles O48: each of the four is `rotateAcc`. -/
theorem accumulatorRotates : Obligations.AccumulatorRotates := by
  intro s op i code h
  simp only [List.mem_cons, Prod.mk.injEq, List.not_mem_nil, or_false] at h
  obtain ⟨rfl, rfl, rfl⟩ | ⟨rfl, rfl, rfl⟩ | ⟨rfl, rfl, rfl⟩ | ⟨rfl, rfl, rfl⟩ := h
  · exact completes_of_rotateAcc rfl rfl rfl
  · exact completes_of_rotateAcc rfl rfl rfl
  · exact completes_of_rotateAcc rfl rfl rfl
  · exact completes_of_rotateAcc rfl rfl rfl

/-- Settles O49: one register write and one flag write, whose values are those of R234 as numbers. -/
theorem Rot.rotateReg : Obligations.RotateReg := by
  intro op r s
  refine completes_of_setReg_setFlags (encode_rotReg op r) (cycles_rotReg op r s) ?_
  rw [exec_rotReg, Machine.rotateReg, rotate_eq]
  simp only [ofNat_rotResult_eq_zero_iff]

/-- Settles O50: one read, one write and the flags, whose values are those of R234 as numbers. -/
theorem Rot.rotateAtHl : Obligations.RotateAtHl := by
  intro op s
  refine updates_of_putFlags (fun old => (rotate op old s.flagC).1)
    (fun old => ⟨decide ((rotate op old s.flagC).1 = 0), false, false, (rotate op old s.flagC).2⟩)
    (encode_rotAtHl op) (cycles_rotAtHl op s) (exec_rotAtHl op s) ?_ ?_
  · rw [rotate_eq]
  · simp only [rotate_eq, ofNat_rotResult_eq_zero_iff]

/-! ### BIT -/

theorem bitFlags_eq (b : Fin 8) (v : Byte) (s : State) :
    bitFlags b v s = s.setFlags (decide (v.toNat / 2 ^ b.val % 2 = 0)) false true s.flagC := by
  have hzero : (!v.getLsbD b.val) = decide (v.toNat / 2 ^ b.val % 2 = 0) := by
    rw [getLsbD_eq_decide, ← decide_not, decide_eq_decide]
    omega
  rw [bitFlags, hzero]

/-- Settles O51: the flags alone are written, after a read where the byte is at HL. -/
theorem bitTest : Obligations.BitTest := by
  intro b s
  refine ⟨fun r => ?reg, ?atHl⟩
  case reg =>
    refine completes_of_setFlags (encode_bitReg b r) (cycles_bitReg b r s) ?_
    rw [exec_bitReg, testBitReg, bitFlags_eq]
    rfl
  case atHl =>
    have hexec : exec (.bitAtHl b) s = readByte s.hl (s.advance 2) fun v u => .next (bitFlags b v u) := exec_bitAtHl b s
    refine loads_of (encode_bitAtHl b) (cycles_bitAtHl b s) hexec fun v _ => ?_
    rw [bitFlags_eq]
    exact ends_setFlags 2 _ _ _ _ rfl

/-! ### RES and SET -/

theorem bitMask_eq_twoPow (b : Fin 8) : bitMask b = BitVec.twoPow 8 b.val := (BitVec.twoPow_eq 8 b.val).symm

theorem bitMask_getLsbD (b : Fin 8) (k : Nat) : (bitMask b).getLsbD k = decide (k = b.val) := by
  rw [bitMask_eq_twoPow, BitVec.getLsbD_twoPow]
  simp [b.isLt, eq_comm]

/-- R253 bit by bit. -/
theorem clearBit_getLsbD (v : Byte) (b : Fin 8) {k : Nat} (hk : k < 8) :
    (v &&& ~~~bitMask b).getLsbD k = (decide (k ≠ b.val) && v.getLsbD k) := by
  rw [BitVec.getLsbD_and, BitVec.getLsbD_not, bitMask_getLsbD, decide_not, decide_eq_true hk, Bool.true_and, Bool.and_comm]

/-- R255 bit by bit. -/
theorem setBit_getLsbD (v : Byte) (b : Fin 8) (k : Nat) :
    (v ||| bitMask b).getLsbD k = (decide (k = b.val) || v.getLsbD k) := by
  rw [BitVec.getLsbD_or, bitMask_getLsbD, Bool.or_comm]

theorem completesWith_mono {after s : State} {i : Instr} {code : List Byte} {cycles : Byte} {post post' : State → Prop}
    (h : CompletesWith after i s code cycles post) (hpost : ∀ t, post t → post' t) :
    CompletesWith after i s code cycles post' := by
  obtain ⟨hcode, hcycles, t, ht, hfault, hcollab, hstate, hparams, hp⟩ := h
  exact ⟨hcode, hcycles, t, ht, hfault, hcollab, hstate, hparams, hpost t hp⟩

/-- Settles O52: one register write, bit by bit `clearBit_getLsbD` or `setBit_getLsbD`. -/
theorem resetAndSetBitReg : Obligations.ResetAndSetBitReg := by
  intro b r s
  refine ⟨?res, ?set⟩
  case res =>
    refine completesWith_mono (completes_of_setReg (encode_resReg b r) (cycles_resReg b r s) (exec_resReg b r s)) ?_
    rintro t ⟨hreg, hrest⟩
    exact ⟨fun k hk => by rw [hreg, clearBit_getLsbD _ b hk], hrest⟩
  case set =>
    refine completesWith_mono (completes_of_setReg (encode_setReg b r) (cycles_setReg b r s) (exec_setReg b r s)) ?_
    rintro t ⟨hreg, hrest⟩
    exact ⟨fun k _ => by rw [hreg, setBit_getLsbD], hrest⟩

theorem bitMask_eq_ofNat (b : Fin 8) : bitMask b = BitVec.ofNat 8 (2 ^ b.val) := by
  rw [bitMask_eq_twoPow]
  exact BitVec.eq_of_toNat_eq (by rw [BitVec.toNat_twoPow, BitVec.toNat_ofNat])

/-- A bit of a byte in its place, as a number. -/
theorem and_bitMask_eq (v : Byte) (b : Fin 8) :
    v &&& bitMask b = BitVec.ofNat 8 (v.toNat / 2 ^ b.val % 2 * 2 ^ b.val) := by
  have hmask : v &&& bitMask b = if v.toNat.testBit b.val = true then bitMask b else 0#8 := by
    rw [bitMask_eq_twoPow]
    exact BitVec.and_twoPow v b.val
  rw [hmask, ← Nat.toNat_testBit]
  cases v.toNat.testBit b.val with
  | false => simp
  | true => simp [bitMask_eq_ofNat]

theorem bit_mul_le (v k : Nat) : v / 2 ^ k % 2 * 2 ^ k ≤ v :=
  (Nat.mul_le_mul_right _ (Nat.mod_le _ 2)).trans (Nat.div_mul_le_self v _)

/-- A byte is the part of it under a mask and the part beside it. -/
theorem and_add_and_not (v m : Byte) : (v &&& m) + (v &&& ~~~m) = v := by
  have hdisjoint : (v &&& m) &&& (v &&& ~~~m) = 0 := by
    ext k hk
    cases hm : m[k] <;> simp [hm]
  rw [BitVec.add_eq_or_of_and_eq_zero _ _ hdisjoint, ← BitVec.and_or_distrib_left, BitVec.or_not_self,
    BitVec.and_allOnes]

/-- To set bits is to clear them and add them. -/
theorem or_eq_and_not_add (v m : Byte) : v ||| m = (v &&& ~~~m) + m := by
  have hdisjoint : (v &&& ~~~m) &&& m = 0 := by
    ext k hk
    cases hm : m[k] <;> simp [hm]
  rw [BitVec.add_eq_or_of_and_eq_zero _ _ hdisjoint]
  ext k hk
  cases hm : m[k] <;> simp [hm]

/-- R254 as numbers. -/
theorem clearBit_eq (v : Byte) (b : Fin 8) :
    v &&& ~~~bitMask b = BitVec.ofNat 8 (v.toNat - v.toNat / 2 ^ b.val % 2 * 2 ^ b.val) := by
  have hsplit := and_add_and_not v (bitMask b)
  have hle := bit_mul_le v.toNat b.val
  rw [and_bitMask_eq] at hsplit
  generalize v.toNat / 2 ^ b.val % 2 * 2 ^ b.val = k at hsplit hle ⊢
  generalize v &&& ~~~bitMask b = w at hsplit ⊢
  bv_omega

/-- R256 as numbers. -/
theorem setBit_eq (v : Byte) (b : Fin 8) :
    v ||| bitMask b = BitVec.ofNat 8 (v.toNat + (1 - v.toNat / 2 ^ b.val % 2) * 2 ^ b.val) := by
  have hle := bit_mul_le v.toNat b.val
  rw [or_eq_and_not_add, clearBit_eq, bitMask_eq_ofNat, ← BitVec.ofNat_add]
  congr 1
  obtain hbit | hbit := Nat.mod_two_eq_zero_or_one (v.toNat / 2 ^ b.val)
  · rw [hbit, Nat.zero_mul, Nat.sub_zero, Nat.sub_zero, Nat.one_mul]
  · rw [hbit, Nat.one_mul] at hle
    rw [hbit, Nat.one_mul, Nat.sub_self, Nat.zero_mul, Nat.add_zero, Nat.sub_add_cancel hle]

/-- An instruction that reads a byte, stores there `g` of it and does nothing else. -/
theorem updates_of_next {i : Instr} {s : State} {x : Addr} {v : Byte} {code : List Byte} {cycles : Byte} {length : Addr}
    (g : Byte → Byte) (hcode : encode i = code) (hcycles : cycleReport i s = some cycles)
    (hexec : exec i s = readByte x (s.advance length) fun old u => writeByte x (g old) u .next)
    (hv : g (s.byteAt x) = v) : Updates i s x v code cycles fun t => t.f = s.f ∧ Frame [] [x] length s t := by
  refine updates_of hcode hcycles hexec hv ?ends
  have hregs : KeepsRegs [] s (((s.afterRead x).afterWrite x v).advance length) := fun r _ => by simp
  have hmem : KeepsMem [x] s (((s.afterRead x).afterWrite x v).advance length) := keepsMem_setByte rfl
  exact ⟨_, rfl, rfl, rfl, rfl, rfl, afterWrite_byteAt_same _ x v, rfl, hregs, hmem, rfl, rfl⟩

/-- Settles O53: one read and one write, whose values are those of R254 and R256 as numbers. -/
theorem resetAndSetBitAtHl : Obligations.ResetAndSetBitAtHl := fun b s =>
  ⟨updates_of_next (fun old => old &&& ~~~bitMask b) (encode_resAtHl b) (cycles_resAtHl b s) (exec_resAtHl b s)
      (clearBit_eq _ b),
    updates_of_next (fun old => old ||| bitMask b) (encode_setAtHl b) (cycles_setAtHl b s) (exec_setAtHl b s)
      (setBit_eq _ b)⟩

end Sys2Proof.Machine
end

section
/-! PROOFS. 46_control_transfer.md: the absolute jumps (R265 to R267), the calls and restarts (R270, R271, R275), the return
after a call, and 47_misc_system.md with R274: `DI`, `EI` and `RETI`. -/

namespace Sys2Proof.Machine

/-! ### JP nn, JP HL and JP cc,nn -/

/-- An instruction that writes pc alone and asks the collaborator nothing. -/
theorem completes_of_setPc {i : Instr} {s : State} {code : List Byte} {cycles : Byte} {v : Addr} (hcode : encode i = code)
    (hcycles : cycleReport i s = some cycles) (hexec : exec i s = .next (s.setPc v)) :
    Completes i s code cycles fun t => t.pc = v ∧ t.sp = s.sp ∧ t.f = s.f ∧ KeepsRegs [] s t ∧ KeepsMem [] s t := by
  have hregs : KeepsRegs [] s (s.setPc v) := fun r _ => setPc_reg s v r
  exact completesWith_of hcode hcycles hexec ⟨_, rfl, rfl, rfl, rfl, rfl, rfl, rfl, rfl, hregs, keepsMem_of_mem_eq [] rfl⟩

/-- Settles O54: each jump taken is `setPc`, the `JP cc,nn` not taken moves pc past its three bytes. -/
theorem absoluteJumps : Obligations.AbsoluteJumps := by
  intro s nn
  refine ⟨?jp, ?jpHl, fun cc => ⟨fun h => ?taken, fun h => ?notTaken⟩⟩
  case jp => exact completes_of_setPc rfl rfl rfl
  case jpHl => exact completes_of_setPc rfl rfl rfl
  case taken =>
    have hcond : s.cond cc = true := (cond_iff cc s).mpr h
    exact completes_of_setPc (encode_jpCond cc nn) (by rw [cycles_jpCond, if_pos hcond])
      (by rw [exec_jpCond, jumpIf, if_pos hcond])
  case notTaken =>
    have hcond : ¬ s.cond cc = true := mt (cond_iff cc s).mp h
    exact completes_of_advance (encode_jpCond cc nn) (by rw [cycles_jpCond, if_neg hcond])
      (by rw [exec_jpCond, jumpIf, if_neg hcond])

/-! ### CALL nn, CALL cc,nn and RST -/

/-- R270: the address pushed is that of the following instruction. -/
theorem pushes_of_callTo {i : Instr} {s : State} {code : List Byte} {cycles : Byte} {n target : Addr}
    (hcode : encode i = code) (hcycles : cycleReport i s = some cycles) (hexec : exec i s = callTo target (s.advance n)) :
    Pushes i s (s.pc + n) code cycles target :=
  pushes_of (fun u => u.setPc target) hcode hcycles hexec fun _ _ => rfl

/-- R275: the eight restart addresses. -/
theorem rst_target (y : Fin 8) : 8 * BitVec.ofNat 16 y.val = BitVec.ofNat 16 (8 * y.val) :=
  (BitVec.ofNat_mul 8 y.val).symm

/-- Settles O56: each call taken is `callTo`, the `CALL cc,nn` not taken moves pc past its three bytes. -/
theorem callsAndRestarts : Obligations.CallsAndRestarts := by
  intro s nn
  refine ⟨?call, fun cc => ⟨fun h => ?taken, fun h => ?notTaken⟩, fun y => ?rst⟩
  case call => exact pushes_of_callTo rfl rfl rfl
  case taken =>
    have hcond : s.cond cc = true := (cond_iff cc s).mpr h
    exact pushes_of_callTo (encode_callCond cc nn) (by rw [cycles_callCond, if_pos hcond])
      (by rw [exec_callCond, callIf, if_pos hcond])
  case notTaken =>
    have hcond : ¬ s.cond cc = true := mt (cond_iff cc s).mp h
    exact completes_of_advance (encode_callCond cc nn) (by rw [cycles_callCond, if_neg hcond])
      (by rw [exec_callCond, callIf, if_neg hcond])
  case rst =>
    rw [← rst_target]
    exact pushes_of_callTo (encode_rst y) (cycles_rst y s) (exec_rst y s)

/-- Each of the calls O58 speaks of pushes the address of the instruction that follows it. -/
theorem pushes_of_call {s : State} {i : Instr} {length : Addr}
    (h : (∃ nn, i = .callNn nn ∧ length = 3) ∨ (∃ cc nn, i = .callCond cc nn ∧ CondHolds cc s ∧ length = 3) ∨
      ∃ y, i = .rst y ∧ length = 1) : ∃ code cycles target, Pushes i s (s.pc + length) code cycles target := by
  obtain ⟨nn, rfl, rfl⟩ | ⟨cc, nn, rfl, hcond, rfl⟩ | ⟨y, rfl, rfl⟩ := h
  · exact ⟨_, _, _, (callsAndRestarts s nn).1⟩
  · exact ⟨_, _, _, ((callsAndRestarts s nn).2.1 cc).1 hcond⟩
  · exact ⟨_, _, _, (callsAndRestarts s 0).2.2 y⟩

/-- Settles O58: `RET` pops what the call has pushed. -/
theorem returnAfterCall : Obligations.ReturnAfterCall := by
  intro s t i length hcall hexec ht hlo hhi
  obtain ⟨code, cycles, target, hpushes⟩ := pushes_of_call hcall
  have hpushed := pushed_of_completed hpushes hexec ht
  obtain ⟨u, hu, hfault, hsp, hpc, hf, hregs⟩ := pops_pushed hpushed ht (returns t).1 hlo hhi
  exact ⟨u, hu, hfault, hpc, hsp, hf.trans hpushed.f, keepsRegs_trans hpushed.regs hregs⟩

/-! ### DI, EI and RETI -/

/-- R274. -/
theorem exec_reti (s : State) : exec .reti s = pop16 (s.advance 1) fun v u =>
    writeByte u.params.ieAddr u.params.eiSentinel (u.setPc v) .next := rfl

/-- R274: once both bytes are popped, what is left of `RETI` is the write of `EI`, in a state that differs in pc and SP from
the one after the two reads. -/
theorem exec_reti_of_answered {s : State} (hlo : s.readFails s.sp = false)
    (hhi : (s.afterRead s.sp).readFails (s.sp + 1) = false) :
    exec .reti s = writeByte s.params.ieAddr s.params.eiSentinel
      (((((s.afterRead s.sp).afterRead (s.sp + 1)).advance 1).setSp (s.sp + 2)).setPc
        (joinBytes (s.byteAt (s.sp + 1)) (s.byteAt s.sp))) .next := by
  rw [exec_reti, pop16_ok (by simpa using hlo) (by simpa using hhi)]
  simp

/-- Settles O59: `DI` and `EI` are one store; `RETI` is `pop16` and then the store. -/
theorem interruptEnableWrites : Obligations.InterruptEnableWrites := by
  intro s ie popped
  refine ⟨stores_of_next rfl rfl rfl, stores_of_next rfl rfl rfl, fun hlo hhi hw => ?returns, fun hlo => ?low,
    fun hlo hhi => ?high, fun hlo hhi hw => ?refused⟩
  case returns =>
    have hexec := (exec_reti_of_answered hlo hhi).trans (writeByte_ok (by simpa [popped] using hw))
    have hmem : KeepsMem [ie] s (popped.afterWrite ie s.params.eiSentinel) := keepsMem_setByte rfl
    rw [setPc_afterWrite, setSp_afterWrite, advance_afterWrite] at hexec
    exact completesWith_of rfl rfl hexec ⟨_, rfl, by simp, by simp, by simp [ie, popped], by simp, by simp, by simp,
      by simp [ie], by simp, fun r _ => by simp, hmem⟩
  case low =>
    unfold Raises
    rw [exec_reti]
    exact pop16_fails_lo (s := s.advance 1) hlo
  case high =>
    unfold Raises
    rw [exec_reti]
    exact pop16_fails_hi (s := s.advance 1) hlo hhi
  case refused => exact ⟨_, (exec_reti_of_answered hlo hhi).trans (writeByte_fails (by simpa [popped] using hw)), rfl⟩

end Sys2Proof.Machine
end

section
/-! PROOFS. 40_primitives_dispatch.md R112, 47_misc_system.md R286: the row of the byte 0xCB (log 8). -/

namespace Sys2Proof.Machine

/-- R91: the fields of the extended byte select the rule of the instruction it encodes. -/
theorem exec_extendedTable (op2 : Byte) (s : State) : exec (extendedTable op2) s = runExtended op2 s := by
  unfold extendedTable runExtended
  generalize opX op2 = x
  cases r8Table (opZ op2) with
  | some r =>
    match x with
    | 0 => exact exec_rotReg (rotTable (opY op2)) r s
    | 1 => exact exec_bitReg (opYFin op2) r s
    | 2 => exact exec_resReg (opYFin op2) r s
    | _ + 3 => exact exec_setReg (opYFin op2) r s
  | none =>
    match x with
    | 0 => exact exec_rotAtHl (rotTable (opY op2)) s
    | 1 => exact exec_bitAtHl (opYFin op2) s
    | 2 => exact exec_resAtHl (opYFin op2) s
    | _ + 3 => exact exec_setAtHl (opYFin op2) s

/-- R91: what the extended table holds. -/
theorem extendedTable_cases {P : Instr → Prop} (rotReg : ∀ op r, P (.rotReg op r)) (rotAtHl : ∀ op, P (.rotAtHl op))
    (bitReg : ∀ b r, P (.bitReg b r)) (bitAtHl : ∀ b, P (.bitAtHl b)) (resReg : ∀ b r, P (.resReg b r))
    (resAtHl : ∀ b, P (.resAtHl b)) (setReg : ∀ b r, P (.setReg b r)) (setAtHl : ∀ b, P (.setAtHl b)) (op2 : Byte) :
    P (extendedTable op2) := by
  unfold extendedTable
  split
  · exact rotReg _ _
  · exact rotAtHl _
  · exact bitReg _ _
  · exact bitAtHl _
  · exact resReg _ _
  · exact resAtHl _
  · exact setReg _ _
  · exact setAtHl _

/-- R97: no row of the extended table is conditional. -/
theorem cycleCost_extendedTable (op2 : Byte) : ∃ n, cycleCost (extendedTable op2) = .fixed n := by
  obtain ⟨n, hn, rfl⟩ : ∃ n, n < 256 ∧ op2 = BitVec.ofNat 8 n := ⟨op2.toNat, op2.isLt, by simp⟩
  interval_cases n <;> exact ⟨_, rfl⟩

theorem next_of_completesWith {after s : State} {i : Instr} {code : List Byte} {cycles : Byte} {post : State → Prop}
    {v : Addr} (h : CompletesWith after i s code cycles post) (hpc : ∀ t, post t → t.pc = v) :
    ∃ t, exec i s = .next t ∧ t.fault = s.fault ∧ t.pc = v := by
  obtain ⟨-, -, t, ht, hfault, -, -, -, hpost⟩ := h
  exact ⟨t, ht, hfault, hpc t hpost⟩

/-- Where no access at HL is refused an extended instruction completes two bytes on: O49 to O53 say so of its families. -/
theorem extendedTable_completes {s : State} (hr : s.readFails s.hl = false)
    (hw : ∀ v, (s.afterRead s.hl).writeFails s.hl v = false) (op2 : Byte) :
    ∃ t, exec (extendedTable op2) s = .next t ∧ t.fault = s.fault ∧ t.pc = s.pc + 2 :=
  extendedTable_cases (P := fun i => ∃ t, exec i s = .next t ∧ t.fault = s.fault ∧ t.pc = s.pc + 2)
    (fun op r => next_of_completesWith (Rot.rotateReg op r s) fun _ ⟨_, _, _, _, _, hpc⟩ => hpc)
    (fun op => next_of_completesWith ((Rot.rotateAtHl op s).1 hr (hw _)) fun _ ⟨_, _, _, _, _, hpc⟩ => hpc)
    (fun b r => next_of_completesWith ((bitTest b s).1 r) fun _ ⟨_, _, _, _, hpc⟩ => hpc)
    (fun b => next_of_completesWith ((bitTest b s).2.1 hr) fun _ ⟨_, _, _, _, hpc⟩ => hpc)
    (fun b r => next_of_completesWith (resetAndSetBitReg b r s).1 fun _ ⟨_, _, _, _, _, hpc⟩ => hpc)
    (fun b => next_of_completesWith ((resetAndSetBitAtHl b s).1.1 hr (hw _)) fun _ ⟨_, _, _, _, _, hpc⟩ => hpc)
    (fun b r => next_of_completesWith (resetAndSetBitReg b r s).2 fun _ ⟨_, _, _, _, _, hpc⟩ => hpc)
    (fun b => next_of_completesWith ((resetAndSetBitAtHl b s).2.1 hr (hw _)) fun _ ⟨_, _, _, _, _, hpc⟩ => hpc)
    op2

/-- R112, R286. -/
theorem exec_prefixCb (s : State) : exec .prefixCb s =
    readByte (s.pc + 1) (s.advance 1) fun op2 u => runExtended op2 (u.setPc s.pc) := rfl

/-- R112: the read of the second byte leaves the state in which the extended instruction is performed. -/
theorem exec_prefixCb_of_answered {s : State} (h : s.readFails (s.pc + 1) = false) :
    exec .prefixCb s = exec (extendedTable (s.byteAt (s.pc + 1))) (s.afterRead (s.pc + 1)) := by
  rw [exec_prefixCb, readByte_ok (by simpa using h), exec_extendedTable]
  rfl

/-- R286: the byte 0xCB costs nothing of its own. -/
theorem cycleReport_prefixCb (s : State) :
    cycleReport .prefixCb s = cycleReport (extendedTable (s.byteAt (s.pc + 1))) s := by
  obtain ⟨n, hn⟩ := cycleCost_extendedTable (s.byteAt (s.pc + 1))
  have hrow : cycleCost .prefixCb = .ofExtended := rfl
  simp only [cycleReport, hrow, hn]

/-- Settles O21: the extended instruction is the table's row for the byte read. -/
theorem prefixPerformsExtended : Obligations.PrefixPerformsExtended := by
  intro s
  refine ⟨rfl, fun hread => ?performed, fun hread => ?refused⟩
  case performed =>
    intro u
    have hexec := exec_prefixCb_of_answered hread
    obtain ⟨t, ht, -⟩ := Reaches.of_exec u (extendedTable (s.byteAt (s.pc + 1)))
    refine ⟨_, t, (extendedTable_bytes (s.byteAt (s.pc + 1))).1, ht, hexec.trans ht, cycleReport_prefixCb s,
      fun hr hw => ?completes⟩
    obtain ⟨t', ht', hfault, hpc⟩ := extendedTable_completes (s := u) hr hw (s.byteAt (s.pc + 1))
    rw [ht] at ht'
    cases ht'
    exact ⟨hfault, hpc⟩
  case refused => exact ⟨_, (exec_prefixCb s).trans (readByte_fails (s := s.advance 1) hread), rfl⟩

end Sys2Proof.Machine
end

section
/-! PROOFS. 10_state.md R25, R26, 40_primitives_dispatch.md R113: where pc and SP stand after an instruction that completes.
The statement of each family says it; here it is read off, family by family. -/

namespace Sys2Proof.Machine

/-- After every completed execution of `i` from `s` pc stands past its bytes, unless `i` transfers control, and SP as
before, unless `i` is of those listed as writing it. -/
def MovesAsListed (i : Instr) (s : State) : Prop :=
  ∀ t, exec i s = .next t → t.fault = none →
    (¬ TransfersControl i → t.pc = s.pc + BitVec.ofNat 16 (encode i).length) ∧ (¬ WritesSp i → t.sp = s.sp)

section
variable {i : Instr} {s : State} {code : List Byte} {post : State → Prop}

theorem movesAsListed_of_frame {dest : List Reg8} {stored : List Addr} (h : CompletedAs i s code post)
    (hframe : ∀ t, post t → Frame dest stored (BitVec.ofNat 16 code.length) s t) : MovesAsListed i s := by
  intro t hexec ht
  obtain ⟨rfl, hpost⟩ := h t hexec ht
  obtain ⟨-, -, hsp, hpc⟩ := hframe t hpost
  exact ⟨fun _ => hpc, fun _ => hsp⟩

theorem movesAsListed_of_writesSp (hw : WritesSp i) (h : CompletedAs i s code post)
    (hpc : ∀ t, post t → t.pc = s.pc + BitVec.ofNat 16 code.length) : MovesAsListed i s := by
  intro t hexec ht
  obtain ⟨rfl, hpost⟩ := h t hexec ht
  exact ⟨fun _ => hpc t hpost, fun hnot => absurd hw hnot⟩

theorem movesAsListed_of_transfersControl (hc : TransfersControl i) (h : CompletedAs i s code post)
    (hsp : ∀ t, post t → t.sp = s.sp) : MovesAsListed i s := by
  intro t hexec ht
  obtain ⟨-, hpost⟩ := h t hexec ht
  exact ⟨fun hnot => absurd hc hnot, fun _ => hsp t hpost⟩

/-- The calls, returns and restarts. -/
theorem movesAsListed_of_both (hc : TransfersControl i) (hw : WritesSp i) : MovesAsListed i s := fun _ _ _ =>
  ⟨fun hnot => absurd hc hnot, fun hnot => absurd hw hnot⟩

/-- The instructions on a 16-bit operand. -/
theorem movesAsListed_of_reg16 {rr : Reg16} (hw : rr = .sp → WritesSp i) (h : CompletedAs i s code post)
    (hmoves : ∀ t, post t → (rr ≠ .sp → t.sp = s.sp) ∧ t.pc = s.pc + BitVec.ofNat 16 code.length) : MovesAsListed i s := by
  intro t hexec ht
  obtain ⟨rfl, hpost⟩ := h t hexec ht
  obtain ⟨hsp, hpc⟩ := hmoves t hpost
  exact ⟨fun _ => hpc, fun hnot => hsp (mt hw hnot)⟩

/-- The opcodes that never complete. -/
theorem movesAsListed_of_unimplemented {op : Byte} (hexec : exec i s = unimplemented op s) : MovesAsListed i s :=
  fun _ hnext ht => absurd ⟨_, hexec, rfl⟩ (not_raises_of_completed hnext ht (.unimplementedOpcode op s.pc))

/-- The high-page forms. -/
theorem completedAs_of_highPage {off : Byte} {r : Fatal}
    (h : (off ≠ 0xFF ∨ s.params.ldhAllowFFFF = true → CompletedAs i s code post))
    (hraises : off = 0xFF → s.params.ldhAllowFFFF = false → Raises i s r) : CompletedAs i s code post := by
  by_cases hallow : off ≠ 0xFF ∨ s.params.ldhAllowFFFF = true
  · exact h hallow
  · obtain ⟨hoff, hparam⟩ : off = 0xFF ∧ s.params.ldhAllowFFFF = false := by simpa using hallow
    intro t hexec ht
    exact absurd (hraises hoff hparam) (not_raises_of_completed hexec ht r)

end

/-- The three forms of an ALU operation. -/
theorem completedAs_alu (op : AluOp) (src : AluSource) (s : State) :
    CompletedAs (src.instr op) s (src.code op) (Frame [.a] [] src.length s) := by
  obtain ⟨hanswered, hrefused⟩ := aluCompletes_of_alu (op := op) (src := src) (s := s) rfl
  have hframe (hr : src.readable s) : CompletedAs (src.instr op) s (src.code op) (Frame [.a] [] src.length s) :=
    completedAs_of_completesWith (completesWith_mono (hanswered hr) fun _ ⟨_, _, h⟩ => h)
  cases src with
  | reg r => exact hframe trivial
  | imm n => exact hframe trivial
  | atHl => exact completedAs_of_access hframe (hrefused rfl)

/-- 10_state.md R25, R26: the families, each by the statement that settles it. -/
theorem movesAsListed (i : Instr) (s : State) (hwf : WellFormed i = true) : MovesAsListed i s := by
  induction i using Instr.byFamily with
  | prefixCb => exact absurd hwf (by decide)
  | halt | stop => exact movesAsListed_of_unimplemented rfl
  | illegal p hp => exact movesAsListed_of_unimplemented (exec_illegal p hp s)
  -- the 8-bit loads
  | ldRegReg dst src =>
    exact movesAsListed_of_frame (completedAs_of_completesWith (ldRegReg dst src s)) fun _ ⟨_, _, h⟩ => h
  | ldRegImm r n => exact movesAsListed_of_frame (completedAs_of_completesWith (ldRegImm r n s)) fun _ ⟨_, _, h⟩ => h
  | ldRegAtHl r => exact movesAsListed_of_frame (completedAs_of_loads (ldRegAtHl r s)) fun _ ⟨_, _, h⟩ => h
  | ldAtHlReg r => exact movesAsListed_of_frame (completedAs_of_stores (ldAtHlReg r s)) fun _ ⟨_, _, h⟩ => h
  | ldAtHlN n => exact movesAsListed_of_frame (completedAs_of_stores (ldAtHlImm n s)) fun _ ⟨_, _, h⟩ => h
  | ldAAtBc => exact movesAsListed_of_frame (completedAs_of_loads (loadAccumulator s 0).1) fun _ ⟨_, _, h⟩ => h
  | ldAAtDe => exact movesAsListed_of_frame (completedAs_of_loads (loadAccumulator s 0).2.1) fun _ ⟨_, _, h⟩ => h
  | ldAAtNn nn => exact movesAsListed_of_frame (completedAs_of_loads (loadAccumulator s nn).2.2) fun _ ⟨_, _, h⟩ => h
  | ldAtBcA => exact movesAsListed_of_frame (completedAs_of_stores (storeAccumulator s 0).1) fun _ ⟨_, _, h⟩ => h
  | ldAtDeA => exact movesAsListed_of_frame (completedAs_of_stores (storeAccumulator s 0).2.1) fun _ ⟨_, _, h⟩ => h
  | ldAtNnA nn => exact movesAsListed_of_frame (completedAs_of_stores (storeAccumulator s nn).2.2) fun _ ⟨_, _, h⟩ => h
  | ldAAtHlInc => exact movesAsListed_of_frame (completedAs_of_loads (loadAccumulatorStepHl s).1) fun _ ⟨_, _, _, h⟩ => h
  | ldAAtHlDec => exact movesAsListed_of_frame (completedAs_of_loads (loadAccumulatorStepHl s).2) fun _ ⟨_, _, _, h⟩ => h
  | ldAtHlIncA =>
    exact movesAsListed_of_frame (completedAs_of_stores (storeAccumulatorStepHl s).1) fun _ ⟨_, _, _, h⟩ => h
  | ldAtHlDecA =>
    exact movesAsListed_of_frame (completedAs_of_stores (storeAccumulatorStepHl s).2) fun _ ⟨_, _, _, h⟩ => h
  | ldhAAtN n =>
    obtain ⟨hloads, hraises⟩ := highPageLoads s n _ _ _ _ (.inl ⟨rfl, rfl, rfl, rfl⟩)
    exact movesAsListed_of_frame (completedAs_of_highPage (fun hallow => completedAs_of_loads (hloads hallow)) hraises)
      fun _ ⟨_, _, h⟩ => h
  | ldAAtC =>
    obtain ⟨hloads, hraises⟩ := highPageLoads s s.c _ _ _ _ (.inr ⟨rfl, rfl, rfl, rfl, rfl⟩)
    exact movesAsListed_of_frame (completedAs_of_highPage (fun hallow => completedAs_of_loads (hloads hallow)) hraises)
      fun _ ⟨_, _, h⟩ => h
  | ldhAtNA n =>
    obtain ⟨hstores, hraises⟩ := highPageStores s n _ _ _ _ (.inl ⟨rfl, rfl, rfl, rfl⟩)
    exact movesAsListed_of_frame (completedAs_of_highPage (fun hallow => completedAs_of_stores (hstores hallow)) hraises)
      fun _ ⟨_, _, h⟩ => h
  | ldAtCA =>
    obtain ⟨hstores, hraises⟩ := highPageStores s s.c _ _ _ _ (.inr ⟨rfl, rfl, rfl, rfl, rfl⟩)
    exact movesAsListed_of_frame (completedAs_of_highPage (fun hallow => completedAs_of_stores (hstores hallow)) hraises)
      fun _ ⟨_, _, h⟩ => h
  -- the 16-bit loads and the stack
  | ldReg16Imm rr nn =>
    exact movesAsListed_of_reg16 (fun hsp => .inl ⟨nn, by rw [hsp]; rfl⟩)
      (completedAs_of_completesWith (ldReg16Imm rr nn s)) fun _ ⟨_, _, _, _, h⟩ => h
  | ldAtNnSp nn => exact movesAsListed_of_frame (completedAs_of_accesses (ldAtNnSp nn s)) fun _ ⟨_, _, _, h⟩ => h
  | ldSpHl =>
    exact movesAsListed_of_writesSp (.inr (.inl rfl)) (completedAs_of_completesWith (stackPointerArithmetic s 0).1)
      fun _ ⟨_, _, _, _, hpc⟩ => hpc
  | ldHlSpE e =>
    exact movesAsListed_of_frame (completedAs_of_completesWith (stackPointerArithmetic s e).2.1) fun _ ⟨_, _, h⟩ => h
  | addSpE e =>
    exact movesAsListed_of_writesSp (.inr (.inr (.inl ⟨e, rfl⟩)))
      (completedAs_of_completesWith (stackPointerArithmetic s e).2.2) fun _ ⟨_, _, _, _, hpc⟩ => hpc
  | push qq =>
    exact movesAsListed_of_writesSp (by simp [WritesSp]) (completedAs_of_accesses (pushStoresPair qq s))
      fun _ ⟨_, _, _, hpc, _⟩ => hpc
  | pop qq =>
    exact movesAsListed_of_writesSp (by simp [WritesSp]) (completedAs_of_accesses (popLoadsPair qq s))
      fun _ ⟨_, _, _, _, _, hpc⟩ => hpc
  -- arithmetic and logic
  | incReg r => exact movesAsListed_of_frame (completedAs_of_completesWith (incDecReg r s).1) fun _ ⟨_, _, h⟩ => h
  | decReg r => exact movesAsListed_of_frame (completedAs_of_completesWith (incDecReg r s).2) fun _ ⟨_, _, h⟩ => h
  | incAtHl => exact movesAsListed_of_frame (completedAs_of_accesses (incDecAtHl s).1) fun _ ⟨_, _, h⟩ => h
  | decAtHl => exact movesAsListed_of_frame (completedAs_of_accesses (incDecAtHl s).2) fun _ ⟨_, _, h⟩ => h
  | aluReg op r => exact movesAsListed_of_frame (completedAs_alu op (.reg r) s) fun _ h => h
  | aluAtHl op => exact movesAsListed_of_frame (completedAs_alu op .atHl s) fun _ h => h
  | aluImm op n => exact movesAsListed_of_frame (completedAs_alu op (.imm n) s) fun _ h => h
  | daa => exact movesAsListed_of_frame (completedAs_of_completesWith (Daa.decimalAdjust s)) fun _ ⟨_, _, h⟩ => h
  | cpl => exact movesAsListed_of_frame (completedAs_of_completesWith (complementAndCarryFlag s).1) fun _ ⟨_, _, h⟩ => h
  | scf => exact movesAsListed_of_frame (completedAs_of_completesWith (complementAndCarryFlag s).2.1) fun _ ⟨_, h⟩ => h
  | ccf => exact movesAsListed_of_frame (completedAs_of_completesWith (complementAndCarryFlag s).2.2) fun _ ⟨_, h⟩ => h
  | incReg16 rr =>
    exact movesAsListed_of_reg16 (fun hsp => by rw [hsp]; simp [WritesSp, Instr.incReg16])
      (completedAs_of_completesWith (incDecReg16 rr s).1) fun _ ⟨_, _, _, _, h⟩ => h
  | decReg16 rr =>
    exact movesAsListed_of_reg16 (fun hsp => by rw [hsp]; simp [WritesSp, Instr.decReg16])
      (completedAs_of_completesWith (incDecReg16 rr s).2) fun _ ⟨_, _, _, _, h⟩ => h
  | addHlReg16 rr =>
    exact movesAsListed_of_frame (completedAs_of_completesWith (AddHl.addHlReg16 rr s)) fun _ ⟨_, _, h⟩ => h
  -- rotates, shifts and bits
  | rlca =>
    exact movesAsListed_of_frame (completedAs_of_completesWith (accumulatorRotates s .rlc .rlca 0x07 (by simp)))
      fun _ ⟨_, _, h⟩ => h
  | rrca =>
    exact movesAsListed_of_frame (completedAs_of_completesWith (accumulatorRotates s .rrc .rrca 0x0F (by simp)))
      fun _ ⟨_, _, h⟩ => h
  | rla =>
    exact movesAsListed_of_frame (completedAs_of_completesWith (accumulatorRotates s .rl .rla 0x17 (by simp)))
      fun _ ⟨_, _, h⟩ => h
  | rra =>
    exact movesAsListed_of_frame (completedAs_of_completesWith (accumulatorRotates s .rr .rra 0x1F (by simp)))
      fun _ ⟨_, _, h⟩ => h
  | rotReg op r => exact movesAsListed_of_frame (completedAs_of_completesWith (Rot.rotateReg op r s)) fun _ ⟨_, _, h⟩ => h
  | rotAtHl op => exact movesAsListed_of_frame (completedAs_of_accesses (Rot.rotateAtHl op s)) fun _ ⟨_, _, h⟩ => h
  | bitReg b r => exact movesAsListed_of_frame (completedAs_of_completesWith ((bitTest b s).1 r)) fun _ ⟨_, h⟩ => h
  | bitAtHl b => exact movesAsListed_of_frame (completedAs_of_loads (bitTest b s).2) fun _ ⟨_, h⟩ => h
  | resReg b r =>
    exact movesAsListed_of_frame (completedAs_of_completesWith (resetAndSetBitReg b r s).1) fun _ ⟨_, _, h⟩ => h
  | setReg b r =>
    exact movesAsListed_of_frame (completedAs_of_completesWith (resetAndSetBitReg b r s).2) fun _ ⟨_, _, h⟩ => h
  | resAtHl b => exact movesAsListed_of_frame (completedAs_of_accesses (resetAndSetBitAtHl b s).1) fun _ ⟨_, _, h⟩ => h
  | setAtHl b => exact movesAsListed_of_frame (completedAs_of_accesses (resetAndSetBitAtHl b s).2) fun _ ⟨_, _, h⟩ => h
  -- control transfer
  | jpNn nn =>
    exact movesAsListed_of_transfersControl (.inl ⟨nn, rfl⟩) (completedAs_of_completesWith (absoluteJumps s nn).1)
      fun _ ⟨_, hsp, _⟩ => hsp
  | jpHl =>
    exact movesAsListed_of_transfersControl (by simp [TransfersControl])
      (completedAs_of_completesWith (absoluteJumps s 0).2.1) fun _ ⟨_, hsp, _⟩ => hsp
  | jpCond cc nn =>
    obtain ⟨htaken, hnotTaken⟩ := (absoluteJumps s nn).2.2 cc
    by_cases hcond : CondHolds cc s
    · exact movesAsListed_of_transfersControl (.inr (.inl ⟨cc, nn, rfl⟩)) (completedAs_of_completesWith (htaken hcond))
        fun _ ⟨_, hsp, _⟩ => hsp
    · exact movesAsListed_of_frame (completedAs_of_completesWith (hnotTaken hcond)) fun _ ⟨_, h⟩ => h
  | jrE e =>
    exact movesAsListed_of_transfersControl (by simp [TransfersControl])
      (completedAs_of_completesWith (relativeJumps s e).1) fun _ ⟨_, hsp, _⟩ => hsp
  | jrCond cc e =>
    obtain ⟨htaken, hnotTaken⟩ := (relativeJumps s e).2 cc
    by_cases hcond : CondHolds cc s
    · exact movesAsListed_of_transfersControl (.inr (.inr (.inr (.inr (.inl ⟨cc, e, rfl⟩)))))
        (completedAs_of_completesWith (htaken hcond)) fun _ ⟨_, hsp, _⟩ => hsp
    · exact movesAsListed_of_frame (completedAs_of_completesWith (hnotTaken hcond)) fun _ ⟨_, h⟩ => h
  | callNn nn => exact movesAsListed_of_both (by simp [TransfersControl]) (by simp [WritesSp])
  | callCond cc nn => exact movesAsListed_of_both (by simp [TransfersControl]) (by simp [WritesSp])
  | ret => exact movesAsListed_of_both (by simp [TransfersControl]) (by simp [WritesSp])
  | retCond cc => exact movesAsListed_of_both (by simp [TransfersControl]) (by simp [WritesSp])
  | reti => exact movesAsListed_of_both (by simp [TransfersControl]) (by simp [WritesSp])
  | rst y => exact movesAsListed_of_both (by simp [TransfersControl]) (by simp [WritesSp])
  -- system
  | nop =>
    have hadvance := completes_of_advance (n := 1) rfl (cycleReport_nop s) (exec_nop s)
    exact movesAsListed_of_frame (completedAs_of_completesWith hadvance) fun _ ⟨_, h⟩ => h
  | di => exact movesAsListed_of_frame (completedAs_of_stores (interruptEnableWrites s).1) fun _ ⟨_, _, h⟩ => h
  | ei => exact movesAsListed_of_frame (completedAs_of_stores (interruptEnableWrites s).2.1) fun _ ⟨_, _, h⟩ => h

/-- Settles O17: the pc half of `movesAsListed`. -/
theorem pcGrowsByLength : Obligations.PcGrowsByLength := fun i s t hwf hnot hexec ht =>
  (movesAsListed i s hwf t hexec ht).1 hnot

/-- Settles O18: the SP half of `movesAsListed`. -/
theorem spMovedOnlyByItsInstructions : Obligations.SpMovedOnlyByItsInstructions := fun i s t hwf hnot hexec ht =>
  (movesAsListed i s hwf t hexec ht).2 hnot

end Sys2Proof.Machine
end
